-- ==== Sys2Proof/Word.lean ====
section
/-! DEFINITION. The plain word types of the block (R13, R89): a byte, a 16-bit VP address or value, a 32-bit tick value.
The spec has no machine word: every wider quantity is a counted or named thing and has its own type. -/

namespace Sys2Proof

/-- One byte, value 0 to 255 (R13). -/
abbrev Byte := BitVec 8

/-- A 16-bit VP address (R17, R89): an operand and a frame field, never dereferenced by the block (R61). -/
abbrev VpAddr := BitVec 16

/-- A 16-bit VP value (R89). -/
abbrev Value := BitVec 16

/-- A tick value, `TICK_W = 32` bits unsigned (R12, R71). -/
abbrev Tick := BitVec 32

end Sys2Proof
end

