-- ==== Sys2Proof/Config.lean ====
section
/-! DEFINITION. What an implementation fixes (R12: the open parameters) and the free values the spec leaves open (R9, R11, R48).
The parameters are a record that State carries unchanged (assumption 4), so that a statement about every state is a statement
about every admissible parameter choice and the model still runs on the spec's test configuration. -/

namespace Sys2Proof

/-- The implementation parameters of R12 that the spec leaves OPEN. `TICK_W` is 32 (`Tick`); `IDX_W` is derived (`Params.idxW`). -/
structure Params where
  /-- `RB_MAX`: depth in bytes of the physical ring memory, upper bound of the run-time capacity `N`. -/
  rbMax : Nat
  /-- `RX_CAP`: capacity in bytes of the RX frame buffer. -/
  rxCap : Nat
  /-- `TX_CAP`: capacity in bytes of the TX frame buffer. -/
  txCap : Nat
  /-- `CB_CAP`: number of slots of the callback table. -/
  cbCap : Nat
  /-- `CB_TAG_W`: width in bits of a callback tag. -/
  cbTagW : Nat
deriving DecidableEq, Repr

/-- The constraints of R12 on the parameters (`CB_CAP >= 0` holds of every `Nat`). -/
abbrev Params.Ok (p : Params) : Prop :=
  2 ≤ p.rbMax ∧ 7 ≤ p.rxCap ∧ 7 ≤ p.txCap ∧ 1 ≤ p.cbTagW

/-- `IDX_W = ceil(log2(RB_MAX)) + 1`, the width in bits of the signed ring indices (R12). -/
def Params.idxW (p : Params) : Nat := Nat.clog 2 p.rbMax + 1

/-- `ceil(log2(CB_CAP+1))`, the width in bits of `cb_n` (R20). -/
def Params.cbNW (p : Params) : Nat := Nat.clog 2 (p.cbCap + 1)

/-- The test configuration of R12: "a test configuration and not a property of the hardware" (assumption 4). -/
def Params.test : Params :=
  { rbMax := 16, rxCap := 16, txCap := 16, cbCap := 2, cbTagW := 8 }

/-- FREE VALUE. The transport's answer to a request, accept or refuse, when no answer is lined up in State (R11; U3 `any value`). -/
opaque Config.freeAnswer : Nat → Bool

/-- FREE VALUE. Which agent is served first when both ports offer and no grant is lined up in State (R9; U4 `any value`). -/
opaque Config.freeHostFirst : Nat → Bool

/-- FREE VALUE. The `now` of a request that is given by its wire frame alone, which carries no tick value (R81, R83). -/
opaque Config.freeNow : Nat → Tick

/-- FREE VALUE. What an RX frame buffer slot holds before anything has been written to it (R48 `unspecified`). -/
opaque Config.freeRxSlot : Nat → Byte

/-- FREE VALUE. What a TX frame buffer slot holds before anything has been written to it (R48 `unspecified`). -/
opaque Config.freeTxSlot : Nat → Byte

end Sys2Proof
end

