-- ==== Sys2Proof/Syntax.lean ====
section
/-! DEFINITION. The instructions: one constructor per row of spec/opcode_table.json. Ten are the operations of R8 (six host commands,
R87; four transport events, R88), four are the wire frame types of R81 to R84 (R97). -/

namespace Sys2Proof

/-- The two ports operations are offered on, one per agent (R10, R87, R88, R227). -/
inductive Port where
  /-- The host command port (host agent, poll context), R87. -/
  | host
  /-- The transport event port (transport agent, interrupt/completion context), R88. -/
  | xport
deriving DecidableEq, Repr

/-- An operation with its operands (R87 to R89), or a wire frame with its fields (R80 to R84).
`n`, `idx` and `tag` are unsigned of open width (R89, R12); their serialised widths are checked by `Instr.wf`. -/
inductive Instr where
  /-- `INIT n, tx_timeout, rx_timeout` (R190). -/
  | init (n : Nat) (txTimeout rxTimeout : Tick)
  /-- `TICK now` (R196). -/
  | tick (now : Tick)
  /-- `WRITE_VP addr, count, values[0..count-1], now` (R150); `count` is the number of values listed (R100). -/
  | writeVp (addr : VpAddr) (values : List Value) (now : Tick)
  /-- `READ_VP addr, count, now` (R155). -/
  | readVp (addr : VpAddr) (count : Byte) (now : Tick)
  /-- `REGISTER_CB addr, tag` (R180). -/
  | registerCb (addr : VpAddr) (tag : Nat)
  /-- `IS_IDLE` (R160). -/
  | isIdle
  /-- `RB_WRITE idx, byte` (R110). -/
  | rbWrite (idx : Nat) (byte : Byte)
  /-- `RX_PROGRESS idx` (R112). -/
  | rxProgress (idx : Nat)
  /-- `TX_DONE` (R158). -/
  | txDone
  /-- `XPORT_ERR` (R193). -/
  | xportErr
  /-- The write request frame `5A A5 LEN 82 ADDR_HI ADDR_LO body` (R81), block to display.
  The row's mask leaves `LEN` free, so it is a field; `Instr.wf` holds it to `2*count + 3`. -/
  | writeReq (len : Byte) (addr : VpAddr) (body : List Byte)
  /-- The write acknowledgement frame `5A A5 03 82 4F 4B` (R82), display to block. -/
  | writeAck
  /-- The read request frame `5A A5 04 83 ADDR_HI ADDR_LO COUNT` (R83), block to display. -/
  | readReq (addr : VpAddr) (count : Byte)
  /-- The read reply frame `5A A5 LEN 83 data` (R84), display to block; `data` is everything after the function code.
  The block checks neither `LEN` nor `COUNT`, and a reply may be short (R95), so the data bytes are kept as sent. -/
  | readReply (len : Byte) (data : List Byte)
deriving DecidableEq, Repr

/-- The port an instruction is offered on: host commands and the frames a host command makes the block send on the host port,
transport events and the frames the display sends on the transport port (R87, R88, R97, R227; assumptions 5 and 6). -/
def Instr.port : Instr → Port
  | .init _ _ _ => .host
  | .tick _ => .host
  | .writeVp _ _ _ => .host
  | .readVp _ _ _ => .host
  | .registerCb _ _ => .host
  | .isIdle => .host
  | .rbWrite _ _ => .xport
  | .rxProgress _ => .xport
  | .txDone => .xport
  | .xportErr => .xport
  | .writeReq _ _ _ => .host
  | .writeAck => .xport
  | .readReq _ _ => .host
  | .readReply _ _ => .xport

/-- The instruction is a wire frame (R81 to R84), not an operation code of a port (R87, R88). -/
def Instr.isFrame : Instr → Bool
  | .init _ _ _ => false
  | .tick _ => false
  | .writeVp _ _ _ => false
  | .readVp _ _ _ => false
  | .registerCb _ _ => false
  | .isIdle => false
  | .rbWrite _ _ => false
  | .rxProgress _ => false
  | .txDone => false
  | .xportErr => false
  | .writeReq _ _ _ => true
  | .writeAck => true
  | .readReq _ _ => true
  | .readReply _ _ => true

/-- What an agent puts on its port (assumption 1). -/
inductive Offer where
  /-- The bytes of the serialised form (R96), or of a wire frame (R80). -/
  | serial (bytes : List Byte)
  /-- An operation with its operands as the port's own parallel inputs (R87, R88), as wide as R89 has them: a tag of `CB_TAG_W` bits,
  an index or capacity up to `RB_MAX`, whatever these are. -/
  | parallel (i : Instr)
deriving DecidableEq, Repr

end Sys2Proof
end

