-- ==== Sys2Proof/WellFormed.lean ====
section
/-! DEFINITION. Which instructions have an encoding: every operand fits its serialised field (R96) and every wire frame obeys
its length law (R81, R83, R85). Whether the block then accepts the operands is the meaning's business, not this file's. -/

namespace Sys2Proof

/-- The number of data bytes after the function code that a declared length announces: `(LEN - 1) mod 256` (R73, R85). -/
def dataCount (len : Byte) : Nat := (len - 1#8).toNat

/-- R81: `LEN = 2*count + 3` with `1 <= count <= 126`, and `count` values of two bytes each follow the address. -/
def writeReqLawful (len : Byte) (body : List Byte) : Bool :=
  body.length % 2 == 0 && 2 ≤ body.length && body.length ≤ 252 && len.toNat == body.length + 3

/-- Well-formed: the instruction has the encoding of R80 to R84 and R96. -/
def Instr.wf : Instr → Bool
  | .init n _ _ => n < 65536
  | .tick _ => true
  | .writeVp _ values _ => values.length < 256
  | .readVp _ _ _ => true
  | .registerCb _ tag => tag < 256
  | .isIdle => true
  | .rbWrite idx _ => idx < 65536
  | .rxProgress idx => idx < 65536
  | .txDone => true
  | .xportErr => true
  | .writeReq len _ body => writeReqLawful len body
  | .writeAck => true
  | .readReq _ count => 1 ≤ count.toNat
  | .readReply len data => data.length == dataCount len

end Sys2Proof
end

