-- ==== Sys2Proof/Decode.lean ====
section
/-! DEFINITION. The decoder from the serialised form of an offered operation (R96) or the bytes of a wire frame (R80 to R84), total on
any bytes; what a port reads from an offer in either form; the encoder written from the same tables; and the reading of a row of
spec/opcode_table.json (R97). -/

namespace Sys2Proof

/-! ### Byte order (R64): every multi-byte field is big-endian -/

/-- `hi(v) = v[15:8]` (R13). -/
def hiByte (v : BitVec 16) : Byte := v.extractLsb' 8 8

/-- `lo(v) = v[7:0]` (R13). -/
def loByte (v : BitVec 16) : Byte := v.extractLsb' 0 8

/-- `h ‖ l`: the 16-bit field whose high byte comes first (R64). -/
def joinBytes (h l : Byte) : BitVec 16 := h ++ l

/-- The two bytes of a 16-bit field in wire order (R64). -/
def be16 (v : BitVec 16) : List Byte := [hiByte v, loByte v]

/-- The four bytes of a tick value, big-endian (R96). -/
def be32 (t : Tick) : List Byte :=
  [t.extractLsb' 24 8, t.extractLsb' 16 8, t.extractLsb' 8 8, t.extractLsb' 0 8]

/-- The tick value of four big-endian bytes (R96). -/
def joinTick (a b c d : Byte) : Tick := a ++ b ++ c ++ d

/-- The general frame of R80: `5A A5 LEN FC data`. -/
def frameBytes (len fc : Byte) (data : List Byte) : List Byte :=
  0x5A#8 :: 0xA5#8 :: len :: fc :: data

/-- The write acknowledgement, fixed 6 bytes (R82). -/
def ackFrame : List Byte := frameBytes 0x03#8 0x82#8 [0x4F#8, 0x4B#8]

/-! ### The decoder -/

/-- Why a byte string is no offered operation. -/
inductive DecodeError where
  /-- No byte at all. -/
  | empty
  /-- Fewer bytes than the code's operands or the frame's fixed fields need. -/
  | truncated
  /-- The first byte is not `0x0 ‖ op` (R96) and does not open a frame (R80). -/
  | notSerialised (byte : Byte)
  /-- It opens with `5A` but is none of the four frame types in this direction (R3, R97). -/
  | noSuchFrame
deriving DecidableEq, Repr

/-- What a port reads from an offer. -/
inductive Decoded where
  /-- An instruction. -/
  | instr (i : Instr)
  /-- A reserved code of this port, or a code of the other port (R94). -/
  | reserved
  /-- No operation. -/
  | bad (e : DecodeError)
deriving DecidableEq, Repr

/-- Takes a one-byte operand. -/
def withByte (bs : List Byte) (k : Byte → List Byte → Decoded) : Decoded :=
  match bs with
  | b :: r => k b r
  | _ => .bad .truncated

/-- Takes a two-byte operand, high byte first. -/
def withWord (bs : List Byte) (k : BitVec 16 → List Byte → Decoded) : Decoded :=
  match bs with
  | h :: l :: r => k (joinBytes h l) r
  | _ => .bad .truncated

/-- Takes a four-byte tick operand, high byte first. -/
def withTick (bs : List Byte) (k : Tick → List Byte → Decoded) : Decoded :=
  match bs with
  | a :: b :: c :: d :: r => k (joinTick a b c d) r
  | _ => .bad .truncated

/-- Takes `n` two-byte values, each high byte first. -/
def withValues : Nat → List Byte → (List Value → List Byte → Decoded) → Decoded
  | 0, bs, k => k [] bs
  | n + 1, bs, k => withWord bs fun v r => withValues n r fun vs r' => k (v :: vs) r'

/-- `5A ...` on the host port: a frame the block sends, selected by bytes 1 and 3 and, for a read request, by `LEN = 04` (R81, R83, R97).
The body of a write request is the `LEN - 3` bytes after the address, or as many of them as there are; a length that breaks R81
leaves a frame that is not well-formed. -/
def decodeFrameOut (bs : List Byte) : Decoded :=
  match bs with
  | h :: len :: fc :: r =>
    if h = 0xA5#8 ∧ fc = 0x82#8 then
      withWord r fun addr body => .instr (.writeReq len addr (body.take (len.toNat - 3)))
    else if h = 0xA5#8 ∧ fc = 0x83#8 ∧ len = 0x04#8 then
      withWord r fun addr r' => withByte r' fun count _ => .instr (.readReq addr count)
    else .bad .noSuchFrame
  | _ => .bad .truncated

/-- `5A ...` on the transport port: a frame the display sends; the acknowledgement is further selected by `LEN = 03` and data `4F 4B`
(R82, R84, R97). The data of a read reply are the bytes its length announces (R85), or as many of them as arrive; with fewer the
frame is partial and not well-formed. -/
def decodeFrameIn (bs : List Byte) : Decoded :=
  match bs with
  | h :: len :: fc :: r =>
    if h = 0xA5#8 ∧ fc = 0x82#8 ∧ len = 0x03#8 then
      withByte r fun d0 r' => withByte r' fun d1 _ =>
        if d0 = 0x4F#8 ∧ d1 = 0x4B#8 then .instr .writeAck else .bad .noSuchFrame
    else if h = 0xA5#8 ∧ fc = 0x83#8 then .instr (.readReply len (r.take (dataCount len)))
    else .bad .noSuchFrame
  | _ => .bad .truncated

/-- A byte that is no code of this port: reserved or of the other port when it is `0x0 ‖ op` (R94), else nothing. -/
def otherCode (b : Byte) : Decoded :=
  if b.toNat < 16 then .reserved else .bad (.notSerialised b)

/-- The host command port (R87, R96). -/
def decodeHost (b : Byte) (r : List Byte) : Decoded :=
  if b = 0x01#8 then
    withWord r fun n r => withTick r fun tx r => withTick r fun rx _ => .instr (.init n.toNat tx rx)
  else if b = 0x02#8 then withTick r fun now _ => .instr (.tick now)
  else if b = 0x03#8 then
    withWord r fun addr r => withByte r fun count r =>
      withValues count.toNat r fun values r => withTick r fun now _ => .instr (.writeVp addr values now)
  else if b = 0x04#8 then
    withWord r fun addr r => withByte r fun count r => withTick r fun now _ => .instr (.readVp addr count now)
  else if b = 0x05#8 then withWord r fun addr r => withByte r fun tag _ => .instr (.registerCb addr tag.toNat)
  else if b = 0x06#8 then .instr .isIdle
  else if b = 0x5A#8 then decodeFrameOut r
  else otherCode b

/-- The transport event port (R88, R96). -/
def decodeXport (b : Byte) (r : List Byte) : Decoded :=
  if b = 0x08#8 then withWord r fun idx r => withByte r fun byte _ => .instr (.rbWrite idx.toNat byte)
  else if b = 0x09#8 then withWord r fun idx _ => .instr (.rxProgress idx.toNat)
  else if b = 0x0A#8 then .instr .txDone
  else if b = 0x0B#8 then .instr .xportErr
  else if b = 0x5A#8 then decodeFrameIn r
  else otherCode b

/-- What port `p` reads from the bytes of one offer. The operands are parallel inputs (R87, R96): bytes past those the code uses are
not looked at (assumption 15). -/
def decode (p : Port) (bs : List Byte) : Decoded :=
  match p, bs with
  | _, [] => .bad .empty
  | .host, b :: r => decodeHost b r
  | .xport, b :: r => decodeXport b r

/-- What port `p` reads from an offer. A parallel offer shows the operation itself; a code of the other port is as a reserved one (R94), and
a frame that travels in the other direction is no operation of this port (R97). -/
def decodeOffer (p : Port) : Offer → Decoded
  | .serial bs => decode p bs
  | .parallel i => if i.port = p then .instr i else if i.isFrame then .bad .noSuchFrame else .reserved

/-! ### The encoder -/

/-- The serialised form of R96 and the frame layouts of R81 to R84. -/
def encode : Instr → List Byte
  | .init n tx rx => 0x01#8 :: (be16 (BitVec.ofNat 16 n) ++ (be32 tx ++ be32 rx))
  | .tick now => 0x02#8 :: be32 now
  | .writeVp addr values now =>
      0x03#8 :: (be16 addr ++ (BitVec.ofNat 8 values.length :: (values.flatMap be16 ++ be32 now)))
  | .readVp addr count now => 0x04#8 :: (be16 addr ++ (count :: be32 now))
  | .registerCb addr tag => 0x05#8 :: (be16 addr ++ [BitVec.ofNat 8 tag])
  | .isIdle => [0x06#8]
  | .rbWrite idx byte => 0x08#8 :: (be16 (BitVec.ofNat 16 idx) ++ [byte])
  | .rxProgress idx => 0x09#8 :: be16 (BitVec.ofNat 16 idx)
  | .txDone => [0x0A#8]
  | .xportErr => [0x0B#8]
  | .writeReq len addr body => frameBytes len 0x82#8 (be16 addr ++ body)
  | .writeAck => ackFrame
  | .readReq addr count => frameBytes 0x04#8 0x83#8 (be16 addr ++ [count])
  | .readReply len data => frameBytes len 0x83#8 data

/-! ### Rows of the opcode table -/

/-- The row of spec/opcode_table.json an instruction belongs to, as (mask, value) pairs over its first serialised bytes: an operation
code fills the whole first byte, since its high nibble is 0 (R96); a frame type is selected as R97 says. -/
def Instr.row : Instr → List (Byte × Byte)
  | .init _ _ _ => [(0xFF#8, 0x01#8)]
  | .tick _ => [(0xFF#8, 0x02#8)]
  | .writeVp _ _ _ => [(0xFF#8, 0x03#8)]
  | .readVp _ _ _ => [(0xFF#8, 0x04#8)]
  | .registerCb _ _ => [(0xFF#8, 0x05#8)]
  | .isIdle => [(0xFF#8, 0x06#8)]
  | .rbWrite _ _ => [(0xFF#8, 0x08#8)]
  | .rxProgress _ => [(0xFF#8, 0x09#8)]
  | .txDone => [(0xFF#8, 0x0A#8)]
  | .xportErr => [(0xFF#8, 0x0B#8)]
  | .writeReq _ _ _ => [(0xFF#8, 0x5A#8), (0xFF#8, 0xA5#8), (0x00#8, 0x00#8), (0xFF#8, 0x82#8)]
  | .writeAck =>
      [(0xFF#8, 0x5A#8), (0xFF#8, 0xA5#8), (0xFF#8, 0x03#8), (0xFF#8, 0x82#8), (0xFF#8, 0x4F#8), (0xFF#8, 0x4B#8)]
  | .readReq _ _ => [(0xFF#8, 0x5A#8), (0xFF#8, 0xA5#8), (0xFF#8, 0x04#8), (0xFF#8, 0x83#8)]
  | .readReply _ _ => [(0xFF#8, 0x5A#8), (0xFF#8, 0xA5#8), (0x00#8, 0x00#8), (0xFF#8, 0x83#8)]

/-- `bs` begins with bytes that agree with the row under its mask. -/
def matchesRow : List (Byte × Byte) → List Byte → Bool
  | [], _ => true
  | _ :: _, [] => false
  | (m, v) :: row, b :: bs => b &&& m == v && matchesRow row bs

/-- The longest instruction: `WRITE_VP` with 255 values, `1 + 2 + 1 + 2*255 + 4` bytes (R96). -/
def longestInstr : Nat := 518

/-- The bytes of a table word. The table numbers a row's bits as ONE big-endian number (its notes: "bytes 0..3 taken as a big-endian
32-bit word"), so the most significant byte is the first on the wire (R64); every byte past the row is 0 (assumption 16). -/
def tableBytes (nbits w : Nat) : List Byte :=
  let k := (nbits + 7) / 8
  (List.range k).map (fun j => BitVec.ofNat 8 (w >>> (8 * (k - 1 - j)))) ++ List.replicate (longestInstr - k) 0#8

/-- The port a table word belongs to: operations by `op[3]` (R87, R88), frames by their direction (R97). Where the bytes alone leave the
direction open, the row with the longer mask is meant: `5A A5 04 83` is READ_REQ, `5A A5 03 82 4F 4B` is WRITE_ACK (assumption 16). -/
def tablePort (bs : List Byte) : Port :=
  if bs.headD 0#8 = 0x5A#8 then
    if matchesRow (Instr.writeAck).row bs then .xport
    else if matchesRow (Instr.readReq 0#16 0#8).row bs then .host
    else if matchesRow (Instr.readReply 0#8 []).row bs then .xport
    else .host
  else if 8 ≤ (bs.headD 0#8).toNat then .xport else .host

/-- The instruction the decoder reads from a row's bits, numbered as the table numbers them (none where it refuses or the code is reserved). -/
def decodeTableWord (nbits w : Nat) : Option Instr :=
  match decode (tablePort (tableBytes nbits w)) (tableBytes nbits w) with
  | .instr i => some i
  | .reserved => none
  | .bad _ => none

end Sys2Proof
end

