-- ==== Sys2Proof/Machine/State.lean ====
section
/-! DEFINITION. The state of the block, as plain data: every element of R20, then what stands outside it and is handed to it or taken from
it (the two ports, the transport's answers, the reset input, the answer and outputs of the last operation), and `State.reset` (R48). -/

namespace Sys2Proof.Machine

/-- A byte memory: (index, byte) pairs, indices strictly rising. An index that is not listed holds NO value: R48 gives memories none,
so no byte is ever equal to what an unlisted index reads as and canonical means strictly rising. -/
abbrev Memory := List Host.Cell

/-- `link` (R22). -/
inductive Link where
  | uninit
  | operational
  | transportError
deriving DecidableEq, Repr

/-- `rx_state` (R28). -/
inductive RxState where
  | waitingHeader
  | waitingLength
  | waitingFunctionCode
  | waitingData
  | dataReceived
deriving DecidableEq, Repr

/-- `tx_state` (R35). -/
inductive TxState where
  | idle
  | sendingWrite
  | sendingRead
  | writeSendComplete
  | readSendComplete
  | awaitingWriteAck
  | awaitingReadReply
  | writeAckReceived
  | readReplyReceived
deriving DecidableEq, Repr

/-- The result codes of R210. `queueEmpty` keeps its number though no command returns it. -/
inductive Result where
  | ok
  | invalidArg
  | notReady
  | busy
  | allocFail
  | queueEmpty
  | xportErr
  | capacity
deriving DecidableEq, Repr

/-- What a host command answers: its result code and, for `IS_IDLE`, one data bit (R8, R87, R160). -/
structure Answer where
  code : Result
  bit : Option Bool
deriving DecidableEq, Repr

/-- The outputs of R90 (transport requests) and R91 (notifications). -/
inductive Output where
  /-- `XP_RX_START(cap)`. -/
  | xpRxStart (cap : Nat)
  /-- `XP_TX_START(bytes)`, by value (R79). -/
  | xpTxStart (bytes : List Byte)
  /-- `XP_ABORT`. -/
  | xpAbort
  /-- `CB_FIRE(slot, tag, addr, count, plen, payload)` (R184); `plen` is the payload's length. -/
  | cbFire (slot tag : Nat) (addr : VpAddr) (count : Byte) (plen : Nat) (payload : List Byte)
  /-- `FRAME_DONE(fc, ndata)` (R199). -/
  | frameDone (fc ndata : Byte)
deriving DecidableEq, Repr

/-- A used slot of the callback table: `cb_addr[i]`, `cb_tag[i]` (R39). -/
structure CbSlot where
  addr : VpAddr
  tag : Nat
deriving DecidableEq, Repr

/-- The state. Fields up to `cbs` are the elements of R20; the rest is the model's own (assumptions 1 to 4, 11, 12). -/
structure State where
  /-- The implementation parameters of R12, constant (assumption 4). -/
  params : Params
  /-- `cfg_n`, the ring capacity `N` (R21). -/
  cfgN : Nat
  /-- `cfg_tx_timeout` (R21). -/
  cfgTxTimeout : Tick
  /-- `cfg_rx_timeout` (R21). -/
  cfgRxTimeout : Tick
  /-- `link` (R22). -/
  link : Link
  /-- `rb_mem` (R23). -/
  rbMem : Memory
  /-- `rb_head`, signed, `-1` is unset (R24). -/
  rbHead : Int
  /-- `rb_tail`, signed, `-1` is unset (R25). -/
  rbTail : Int
  /-- `rb_ovf` (R26). -/
  rbOvf : Bool
  /-- `rx_state` (R28). -/
  rxState : RxState
  /-- `rx_hdr1` (R29). -/
  rxHdr1 : Bool
  /-- `rx_fb` (R30). -/
  rxFb : Memory
  /-- `rx_expected` (R31). -/
  rxExpected : Byte
  /-- `rx_received` (R32). -/
  rxReceived : Byte
  /-- `rx_start_tick` (R33). -/
  rxStartTick : Tick
  /-- `tx_state` (R35). -/
  txState : TxState
  /-- `tx_send_tick` (R36). -/
  txSendTick : Tick
  /-- `tx_fb` (R37). -/
  txFb : Memory
  /-- `tx_len` (R37). -/
  txLen : Nat
  /-- The callback table (R39): the used slots in insertion order. `cb_n` is its length, `cb_addr[i]` and `cb_tag[i]` are entry `i`. -/
  cbs : List CbSlot
  /-- The reset input `rst` (R240): asserted and to be taken by the next step. -/
  rst : Bool
  /-- Operations offered on the host command port and not yet taken, oldest first (R87; assumption 1). -/
  hostPort : List Offer
  /-- Operations offered on the transport event port and not yet taken, oldest first (R88; assumption 1). -/
  xportPort : List Offer
  /-- Which agent is served when both ports offer (R9), next first; when empty, a free value decides. -/
  grants : List Port
  /-- The transport's answers to coming requests (R11), next first; when empty, a free value answers. -/
  xpAnswers : List Bool
  /-- How many free values have been drawn. -/
  draws : Nat
  /-- What the last operation taken answered; none after a transport event (R8) and after `rst` (assumptions 11, 12). -/
  answer : Option Answer
  /-- The outputs the last operation taken emitted, in order (R8); none after `rst` (assumptions 11, 12). -/
  outs : List Output
deriving DecidableEq, Repr

/-- Why the machine stops with a fault. -/
inductive Fault where
  /-- Raised by `TICK` when `rb_pop` reads a ring byte that no `RB_WRITE` has written since reset (U1, R49: "which a model should fault").
  SAFE: the run ends where a transport that broke R67 would make the block read a byte without a value. -/
  | unwrittenRingByte (idx : Nat)
deriving DecidableEq, Repr

/-- Why an offer is refused. -/
inductive Refusal where
  /-- Raised by an arm of `exec` for an instruction that has no meaning yet. SAFE. No arm raises it now. -/
  | notModelled (mnemonic : String)
  /-- Raised by `step` when an offer is no operation and no reserved code of its port (R94, R96, R97). SAFE: nothing runs. -/
  | undecodable (port : Port) (error : DecodeError)
deriving DecidableEq, Repr

/-- The machine right after hardware reset (R48). The elements R48 gives a value have it; a register R48 leaves unspecified is 0
(assumption 8); no memory byte has a value (assumptions 9 and 10); the parameters are R12's test configuration (assumption 4); nothing is
offered. -/
def State.reset : State where
  params := Params.test
  cfgN := 0
  cfgTxTimeout := 0#32
  cfgRxTimeout := 0#32
  link := .uninit
  rbMem := []
  rbHead := -1
  rbTail := -1
  rbOvf := false
  rxState := .waitingHeader
  rxHdr1 := false
  rxFb := []
  rxExpected := 0#8
  rxReceived := 0#8
  rxStartTick := 0#32
  txState := .idle
  txSendTick := 0#32
  txFb := []
  txLen := 0
  cbs := []
  rst := false
  hostPort := []
  xportPort := []
  grants := []
  xpAnswers := []
  draws := 0
  answer := none
  outs := []

end Sys2Proof.Machine
end

