-- ==== Sys2Proof/Machine/Ops.lean ====
section
/-! DEFINITION. The named operations over memories, registers and ports that the meanings share: byte access, slices, beginning and
answering an operation, outputs and the transport's answers, the resets of the ring and the parser, error entry and error return. -/

namespace Sys2Proof.Machine

/-! ### Memories: every access is one byte (R65) -/

/-- One byte; none where nothing has been written (R48, R49). -/
def Memory.read : Memory → Nat → Option Byte
  | [], _ => none
  | (a, b) :: m, i => if i = a then some b else Memory.read m i

/-- Stores one byte, keeping the indices rising. -/
def Memory.write : Memory → Nat → Byte → Memory
  | [], i, v => [(i, v)]
  | (a, b) :: m, i, v =>
    if i < a then (i, v) :: (a, b) :: m
    else if i = a then (i, v) :: m
    else (a, b) :: Memory.write m i v

/-- Stores bytes at `i, i+1, ...`, one at a time (R65). -/
def Memory.writeAll : Memory → Nat → List Byte → Memory
  | m, _, [] => m
  | m, i, b :: bs => Memory.writeAll (Memory.write m i b) (i + 1) bs

/-- Canonical form: the indices rise strictly (no index reads a value by being unlisted). -/
def Memory.wf : Memory → Bool
  | [] => true
  | [_] => true
  | (a, _) :: (b, y) :: m => decide (a < b) && Memory.wf ((b, y) :: m)

/-- Every listed index is below `n`. -/
def Memory.below (n : Nat) : Memory → Bool
  | [] => true
  | (a, _) :: m => decide (a < n) && Memory.below n m

/-- `rx_fb[i]`; a slot nothing has written holds a free value (R48; assumption 10). -/
def State.rxByte (s : State) (i : Nat) : Byte := (s.rxFb.read i).getD (Config.freeRxSlot i)

/-- `tx_fb[i]`; a slot nothing has written holds a free value (R48; assumption 10). -/
def State.txByte (s : State) (i : Nat) : Byte := (s.txFb.read i).getD (Config.freeTxSlot i)

/-- `rx_fb[i .. i + n - 1]`. -/
def State.rxSlice (s : State) (i n : Nat) : List Byte := (List.range n).map fun k => s.rxByte (i + k)

/-- `tx_fb[i .. i + n - 1]`. -/
def State.txSlice (s : State) (i n : Nat) : List Byte := (List.range n).map fun k => s.txByte (i + k)

/-- `rx_fb[i] <- b` (R30). -/
def State.putRx (s : State) (i : Nat) (b : Byte) : State := { s with rxFb := s.rxFb.write i b }

/-- Rebuilds `tx_fb` from slot 0 and sets `tx_len` (R37, R150). Slots past the new frame keep their bytes. -/
def State.buildTx (s : State) (frame : List Byte) : State :=
  { s with txFb := s.txFb.writeAll 0 frame, txLen := frame.length }

/-! ### Answering and emitting (R8, R15) -/

/-- An operation begins: the answer and the outputs of the one before are gone from the ports (assumption 11). -/
def State.takeOp (s : State) : State := { s with answer := none, outs := [] }

/-- `return <CODE>` (R15). -/
def State.reply (s : State) (c : Result) : State := { s with answer := some ⟨c, none⟩ }

/-- `return (OK, bit)` (R160). -/
def State.replyBit (s : State) (b : Bool) : State := { s with answer := some ⟨.ok, some b⟩ }

/-- `emit <OUTPUT>(args)` (R15). -/
def State.emit (s : State) (o : Output) : State := { s with outs := s.outs ++ [o] }

/-- One free value has been drawn. -/
def State.drawFree (s : State) : State := { s with draws := s.draws + 1 }

/-- The transport's answer to the request being emitted (R11): lined up, or free (assumption 3). -/
def State.nextAnswer (s : State) : Bool :=
  match s.xpAnswers with
  | b :: _ => b
  | [] => Config.freeAnswer s.draws

/-- The same request uses its answer up. -/
def State.popAnswer (s : State) : State :=
  match s.xpAnswers with
  | _ :: bs => { s with xpAnswers := bs }
  | [] => { s with draws := s.draws + 1 }

/-! ### Resets of the parts (R118, R131) -/

/-- `rb_reset()` (R118): both indices unset, the overflow flag cleared, `rb_mem` kept. -/
def State.rbReset (s : State) : State := { s with rbHead := -1, rbTail := -1, rbOvf := false }

/-- `rx_reset()` (R131): wait for a header, forget a stored first magic byte; everything else is kept. -/
def State.rxReset (s : State) : State := { s with rxState := .waitingHeader, rxHdr1 := false }

/-! ### Error entry and error return (R222, R223) -/

/-- Taking a transport error changes exactly one element, `link`, and that only from `Operational` (R193, R222, R224).
Nothing is saved and control goes nowhere. -/
def State.enterError (s : State) : State :=
  if s.link = .operational then { s with link := .transportError } else s

/-- The unconditional resets of `recover()` (R195). -/
def State.wipe (s : State) : State := { s.rxReset.rbReset with txState := .idle }

/-- `recover()` (R195): the resets, then `XP_ABORT`, then, if that was accepted, `XP_RX_START(cfg_n)`; `link` becomes `Operational`
only if both were accepted. The Boolean is what the primitive returns. -/
def State.recover (s : State) : Bool × State :=
  let s1 := s.wipe.emit .xpAbort
  if s1.nextAnswer then
    let s2 := s1.popAnswer.emit (.xpRxStart s.cfgN)
    if s2.nextAnswer then (true, { s2.popAnswer with link := .operational })
    else (false, s2.popAnswer)
  else (false, s1.popAnswer)

end Sys2Proof.Machine
end

