-- ==== Sys2Proof/Machine/Operands.lean ====
section
/-! DEFINITION. The operand forms: the frames built from a command's operands (R81, R83, R86), the argument checks of the commands
(R150, R151, R155, R190), the values in a write request's body, the elapsed time between two tick operands (R71). -/

namespace Sys2Proof.Machine

/-- The write request of R81 and R150: `LEN = 2*count + 3`, the address, then the values in operand order, each high byte first. -/
def writeFrame (addr : VpAddr) (values : List Value) : List Byte :=
  frameBytes (BitVec.ofNat 8 (2 * values.length + 3)) 0x82#8 (be16 addr ++ values.flatMap be16)

/-- The read request of R83 and R155. -/
def readFrame (addr : VpAddr) (count : Byte) : List Byte :=
  frameBytes 0x04#8 0x83#8 (be16 addr ++ [count])

/-- A write's arguments are legal: `1 <= count <= 126` and `2*count + 6 <= TX_CAP` (R150, R151). -/
def writeArgsOk (txCap count : Nat) : Bool := count != 0 && count ≤ 126 && 2 * count + 6 ≤ txCap

/-- A read's arguments are legal: `count != 0` (R155). -/
def readArgsOk (count : Byte) : Bool := count != 0#8

/-- The big-endian values of a write request's body (R64, R81); a trailing odd byte belongs to no value. -/
def bodyValues : List Byte → List Value
  | h :: l :: r => joinBytes h l :: bodyValues r
  | _ => []

/-- `(now - since) mod 2^TICK_W` (R71). -/
def elapsed (now since : Tick) : Tick := now - since

end Sys2Proof.Machine
end

