-- ==== Sys2Proof/Machine/Flags.lean ====
section
/-! DEFINITION. The flag and status computations: ring occupancy and the overflow condition behind `rb_ovf` (R111, R113, R114), the
timeout conditions (R140, R170), the derived `idle` (R42), the status outputs (R47) and the numeric encodings (R22, R28, R35, R210). -/

namespace Sys2Proof.Machine

/-- `rb_unread()` (R111), by cases: the formula with `mod N` must not be used while the tail is unset (C8). -/
def State.rbUnread (s : State) : Int :=
  if s.rbHead = -1 then 0
  else if s.rbTail = -1 then s.rbHead + 1
  else (s.rbHead - s.rbTail) % (s.cfgN : Int)

/-- `rb_advance(idx)` (R113). -/
def State.rbAdvance (s : State) (idx : Nat) : Int :=
  if s.rbHead = -1 then (idx : Int) + 1 else ((idx : Int) - s.rbHead) % (s.cfgN : Int)

/-- How many unread bytes the indices can represent (R114): `N` while the tail is unset, `N - 1` once it is set. -/
def State.rbLimit (s : State) : Int := if s.rbTail = -1 then (s.cfgN : Int) else (s.cfgN : Int) - 1

/-- The condition under which `RX_PROGRESS idx` sets `rb_ovf` (R112, R114). -/
def State.overflows (s : State) (idx : Nat) : Bool := decide (s.rbLimit < s.rbUnread + s.rbAdvance idx)

/-- The condition of `tx_timeout_check` (R170): open, and `elapsed >= cfg_tx_timeout`. -/
def State.txExpired (s : State) (now : Tick) : Bool :=
  decide (s.txState ≠ .idle ∧ s.cfgTxTimeout ≤ elapsed now s.txSendTick)

/-- The condition of `rx_timeout_check` (R140): inside a frame, and `elapsed > cfg_rx_timeout`, strictly. -/
def State.rxExpired (s : State) (now : Tick) : Bool :=
  decide (s.rxState ≠ .waitingHeader ∧ s.cfgRxTimeout < elapsed now s.rxStartTick)

/-- `idle = (tx_state = Idle)` (R42, R160). -/
def State.idle (s : State) : Bool := decide (s.txState = .idle)

/-- Status output `st_idle` (R47). -/
def State.stIdle (s : State) : Bool := s.idle

/-- Status output `st_ovf` (R47). -/
def State.stOvf (s : State) : Bool := s.rbOvf

/-- The encoding of `link` (R22). -/
def Link.code : Link → BitVec 2
  | .uninit => 0#2
  | .operational => 1#2
  | .transportError => 2#2

/-- Status output `st_link` (R47). -/
def State.stLink (s : State) : BitVec 2 := s.link.code

/-- The encoding of `rx_state` (R28). -/
def RxState.code : RxState → BitVec 3
  | .waitingHeader => 0#3
  | .waitingLength => 1#3
  | .waitingFunctionCode => 2#3
  | .waitingData => 3#3
  | .dataReceived => 4#3

/-- The encoding of `tx_state` (R35). -/
def TxState.code : TxState → BitVec 4
  | .idle => 0#4
  | .sendingWrite => 1#4
  | .sendingRead => 2#4
  | .writeSendComplete => 3#4
  | .readSendComplete => 4#4
  | .awaitingWriteAck => 5#4
  | .awaitingReadReply => 6#4
  | .writeAckReceived => 7#4
  | .readReplyReceived => 8#4

/-- The 3-bit result codes of R210. -/
def Result.code : Result → BitVec 3
  | .ok => 0#3
  | .invalidArg => 1#3
  | .notReady => 2#3
  | .busy => 3#3
  | .allocFail => 4#3
  | .queueEmpty => 5#3
  | .xportErr => 6#3
  | .capacity => 7#3

end Sys2Proof.Machine
end

