-- ==== Sys2Proof/Machine/RingBuffer.lean ====
section
/-! DEFINITION. The ring buffer (spec/40_ring_buffer.md): the events `RB_WRITE` (R110) and `RX_PROGRESS` (R112), the primitive
`rb_pop` (R116), and the reception of a run of bytes `RXBYTES` (R101). -/

namespace Sys2Proof.Machine

/-- The effect of `RB_WRITE idx, b` (R110): ignored before `INIT` and out of range, else one byte of `rb_mem`. -/
def State.storeByte (s : State) (idx : Nat) (b : Byte) : State :=
  if s.link = .uninit ∨ s.cfgN ≤ idx then s else { s with rbMem := s.rbMem.write idx b }

/-- The effect of `RX_PROGRESS idx` (R112): ignored before `INIT` and out of range, else the head is recorded, overflow or not, and
`rb_ovf` is set under the condition of R114, judged on the state before. -/
def State.publish (s : State) (idx : Nat) : State :=
  if s.link = .uninit ∨ s.cfgN ≤ idx then s
  else { s with rbOvf := s.rbOvf || s.overflows idx, rbHead := (idx : Int) }

/-- What `rb_pop()` finds (R116). -/
inductive Popped where
  /-- The internal queue-empty outcome; no state changes. -/
  | none
  /-- A byte, and the state with the tail advanced. -/
  | some (b : Byte) (s : State)
  /-- The byte at the new tail has no value (U1). -/
  | unwritten (idx : Nat)

/-- The index the next pop reads: `(rb_tail + 1) mod N`, which is 0 while the tail is unset (R70, R116). -/
def State.nextTail (s : State) : Int := (s.rbTail + 1) % (s.cfgN : Int)

/-- `rb_pop()` (R116). -/
def State.rbPop (s : State) : Popped :=
  if s.rbTail = s.rbHead then .none
  else
    match s.rbMem.read s.nextTail.toNat with
    | .none => .unwritten s.nextTail.toNat
    | .some b => .some b { s with rbTail := s.nextTail }

/-- `RXBYTES` from the byte after index `h` on (R101): `RB_WRITE (h+1) mod N`, ..., then `RX_PROGRESS` of the last index. -/
def State.receiveFrom (s : State) (h : Int) : List Byte → State
  | [] => s.publish (h % (s.cfgN : Int)).toNat
  | b :: bs => State.receiveFrom (s.storeByte ((h + 1) % (s.cfgN : Int)).toNat b) (h + 1) bs

/-- `RXBYTES bs` (R101): the transport receives `bs` after the current head. -/
def State.receive (s : State) (bs : List Byte) : State := s.receiveFrom s.rbHead bs

/-- `RB_WRITE idx, byte` (R110). -/
def execRbWrite (idx : Nat) (byte : Byte) (s : State) : Host.Outcome State Fault Refusal :=
  .next (s.takeOp.storeByte idx byte)

/-- `RX_PROGRESS idx` (R112). -/
def execRxProgress (idx : Nat) (s : State) : Host.Outcome State Fault Refusal :=
  .next (s.takeOp.publish idx)

end Sys2Proof.Machine
end

