-- ==== Sys2Proof/Machine/FrameParser.lean ====
section
/-! DEFINITION. The frame parser (spec/41_frame_parser.md): `rx_feed` in its states (R130, R132 to R135), `rx_step` (R137) and
`rx_timeout_check` (R140). It has no operation of its own; it runs inside `TICK`. -/

namespace Sys2Proof.Machine

/-- `WaitingHeader` (R132). -/
def State.feedHeader (s : State) (b : Byte) (now : Tick) : State :=
  if b = 0x5A#8 then { s.putRx 0 b with rxHdr1 := true }
  else if b = 0xA5#8 ∧ s.rxHdr1 = true then
    { s.putRx 1 b with rxHdr1 := false, rxState := .waitingLength, rxStartTick := now }
  else { s with rxHdr1 := false }

/-- `WaitingLength` (R133): every value is accepted. -/
def State.feedLength (s : State) (b : Byte) : State := { s.putRx 2 b with rxState := .waitingFunctionCode }

/-- `WaitingFunctionCode` (R134): the expected count is `(LEN - 1) mod 256` (R73). -/
def State.feedFunctionCode (s : State) (b : Byte) : State :=
  { s.putRx 3 b with rxExpected := s.rxByte 2 - 1#8, rxReceived := 0#8, rxState := .waitingData }

/-- Data byte `rx_received` goes to slot `4 + rx_received` if there is one, and is dropped otherwise (R135). -/
def State.storeData (s : State) (b : Byte) : State :=
  if 4 + s.rxReceived.toNat < s.params.rxCap then s.putRx (4 + s.rxReceived.toNat) b else s

/-- `WaitingData` (R135): stored or dropped, the byte is counted; the last one completes the frame. -/
def State.feedData (s : State) (b : Byte) : State :=
  { s.storeData b with
    rxReceived := s.rxReceived + 1#8
    rxState := if s.rxReceived + 1#8 = s.rxExpected then .dataReceived else .waitingData }

/-- `rx_feed(b, t)` (R130). -/
def State.rxFeed (s : State) (b : Byte) (now : Tick) : State :=
  match s.rxState with
  | .waitingHeader => s.feedHeader b now
  | .waitingLength => s.feedLength b
  | .waitingFunctionCode => s.feedFunctionCode b
  | .waitingData => s.feedData b
  | .dataReceived => s

/-- Step 2 of `TICK` takes a byte from the ring: the parser is neither done nor holding a frame without data (R137). -/
def State.wantsByte (s : State) : Bool :=
  decide (s.rxState ≠ .dataReceived ∧ ¬(s.rxState = .waitingData ∧ s.rxReceived = s.rxExpected))

/-- `rx_step(t)` (R137): a frame without data completes without a byte (R136); else at most one byte is dequeued and fed (R138). -/
def State.rxStep (s : State) (now : Tick) : Host.Outcome State Fault Refusal :=
  if s.rxState = .dataReceived then .next s
  else if s.rxState = .waitingData ∧ s.rxReceived = s.rxExpected then .next { s with rxState := .dataReceived }
  else
    match s.rbPop with
    | .none => .next s
    | .some b s' => .next (s'.rxFeed b now)
    | .unwritten idx => .fault (.unwrittenRingByte idx)

/-- `rx_timeout_check(t)` (R140): a partial frame is discarded. -/
def State.rxTimeoutCheck (s : State) (now : Tick) : State := if s.rxExpired now then s.rxReset else s

end Sys2Proof.Machine
end

