-- ==== Sys2Proof/Machine/Callbacks.lean ====
section
/-! DEFINITION. The callback registry (spec/43_callback_registry.md): `REGISTER_CB` (R180) and `dispatch` (R183). -/

namespace Sys2Proof.Machine

/-- `cb_n`, the number of used slots (R39). -/
def State.cbN (s : State) : Nat := s.cbs.length

/-- The linear scan of R183 from slot `i` on: the first slot whose watched address is `a` (R40). -/
def cbLookup (a : VpAddr) : Nat → List CbSlot → Option (Nat × CbSlot)
  | _, [] => none
  | i, c :: cs => if c.addr = a then some (i, c) else cbLookup a (i + 1) cs

/-- `rx_stored = min(rx_expected, RX_CAP - 4)` (R34). -/
def State.rxStored (s : State) : Nat := min s.rxExpected.toNat (s.params.rxCap - 4)

/-- The watched address a read reply carries in slots 4 and 5 (R86). -/
def State.replyAddr (s : State) : VpAddr := joinBytes (s.rxByte 4) (s.rxByte 5)

/-- `plen`, the number of payload bytes held (R183). -/
def State.replyPlen (s : State) : Nat := s.rxStored - 3

/-- The `CB_FIRE` of slot `i` for the frame in `rx_fb` (R184). -/
def State.fireOutput (s : State) (i : Nat) (c : CbSlot) : Output :=
  .cbFire i c.tag s.replyAddr (s.rxByte 6) s.replyPlen (s.rxSlice 7 s.replyPlen)

/-- `dispatch()` (R183): nothing for a frame with fewer than three data bytes, else the first matching slot fires, or none. -/
def State.dispatch (s : State) : State :=
  if s.rxExpected.toNat < 3 then s
  else
    match cbLookup s.replyAddr 0 s.cbs with
    | some (i, c) => s.emit (s.fireOutput i c)
    | none => s

/-- Fills the first unused slot, slot `cb_n` (R180); the tag port is `CB_TAG_W` bits wide (assumption 20). -/
def State.addCb (s : State) (addr : VpAddr) (tag : Nat) : State :=
  { s with cbs := s.cbs ++ [{ addr := addr, tag := tag % 2 ^ s.params.cbTagW }] }

/-- `REGISTER_CB addr, tag` (R180): duplicates are not checked for (R181). -/
def execRegisterCb (addr : VpAddr) (tag : Nat) (s : State) : Host.Outcome State Fault Refusal :=
  let s := s.takeOp
  .next <|
    if s.link ≠ .operational then s.reply .notReady
    else if s.cbN = s.params.cbCap then s.reply .capacity
    else (s.addCb addr tag).reply .ok

end Sys2Proof.Machine
end

