-- ==== Sys2Proof/Machine/Transaction.lean ====
section
/-! DEFINITION. The transaction state machine (spec/42_transaction.md): the shared request operation behind `WRITE_VP` (R150) and
`READ_VP` (R155), `TX_DONE` (R158), `IS_IDLE` (R160), and the steps `TICK` calls: latency (R162), routing (R166), timeout (R170). -/

namespace Sys2Proof.Machine

/-- The common body of R150 and R155, tests in the order of R218: link, open transaction, arguments, then the transport's answer.
`frame` is what is built into `tx_fb`; what is offered to the transport is read back from `tx_fb[0 .. tx_len-1]`. -/
def State.request (s : State) (argsOk : Bool) (frame : List Byte) (sending : TxState) (now : Tick) : State :=
  if s.link ≠ .operational then s.reply .notReady
  else if s.txState ≠ .idle then s.reply .busy
  else if argsOk = false then s.reply .invalidArg
  else
    let s1 := s.buildTx frame
    let s2 := s1.emit (.xpTxStart (s1.txSlice 0 s1.txLen))
    if s2.nextAnswer then State.reply { s2.popAnswer with txSendTick := now, txState := sending } .ok
    else s2.popAnswer.reply .xportErr

/-- `WRITE_VP addr, values, now` (R150). -/
def execWriteVp (addr : VpAddr) (values : List Value) (now : Tick) (s : State) : Host.Outcome State Fault Refusal :=
  .next (s.takeOp.request (writeArgsOk s.params.txCap values.length) (writeFrame addr values) .sendingWrite now)

/-- `READ_VP addr, count, now` (R155). -/
def execReadVp (addr : VpAddr) (count : Byte) (now : Tick) (s : State) : Host.Outcome State Fault Refusal :=
  .next (s.takeOp.request (readArgsOk count) (readFrame addr count) .sendingRead now)

/-- The effect of `TX_DONE` on `tx_state` (R158). -/
def TxState.done : TxState → TxState
  | .sendingWrite => .writeSendComplete
  | .sendingRead => .readSendComplete
  | t => t

/-- `TX_DONE` (R158); it does not depend on `link`. -/
def execTxDone (s : State) : Host.Outcome State Fault Refusal :=
  .next { s.takeOp with txState := s.txState.done }

/-- `IS_IDLE` (R160): a pure query, answered in every `link` state. -/
def execIsIdle (s : State) : Host.Outcome State Fault Refusal :=
  .next (s.takeOp.replyBit s.idle)

/-- The latency transitions (R162); the last two lines fold the "received" states. -/
def TxState.latency : TxState → TxState
  | .writeSendComplete => .awaitingWriteAck
  | .readSendComplete => .awaitingReadReply
  | .writeAckReceived => .idle
  | .readReplyReceived => .idle
  | t => t

/-- `tx_latency_step()` (R162). -/
def State.txLatencyStep (s : State) : State := { s with txState := s.txState.latency }

/-- The frame in `rx_fb` is a write acknowledgement: function code `82` and exactly the two data bytes `4F 4B` (R82, R166). -/
def State.holdsAck (s : State) : Bool :=
  s.rxByte 3 == 0x82#8 && s.rxExpected == 2#8 && s.rxByte 4 == 0x4F#8 && s.rxByte 5 == 0x4B#8

/-- A read reply moves `AwaitingReadReply` to `ReadReplyReceived`, which the same step folds to `Idle` (R166); no other state moves. -/
def TxState.closeRead : TxState → TxState
  | .awaitingReadReply => .idle
  | t => t

/-- `route_frame()` (R166). A read reply takes `AwaitingReadReply` through `ReadReplyReceived` back to `Idle` in the same step and is
dispatched in every `tx_state`; an acknowledgement counts only in `AwaitingWriteAck`; anything else has no effect (R95). -/
def State.routeFrame (s : State) : State :=
  if s.rxByte 3 = 0x83#8 then
    State.dispatch { s with txState := s.txState.closeRead }
  else if s.holdsAck = true ∧ s.txState = .awaitingWriteAck then { s with txState := .writeAckReceived }
  else s

/-- `tx_timeout_check(t)` (R170): the transaction is abandoned, silently (R172). -/
def State.txTimeoutCheck (s : State) (now : Tick) : State :=
  if s.txExpired now then { s with txState := .idle } else s

end Sys2Proof.Machine
end

