-- ==== Sys2Proof/Machine/Engine.lean ====
section
/-! DEFINITION. Initialisation, the engine tick and the transport error event (spec/44_engine_tick.md): `INIT` (R190), `TICK` (R196),
`XPORT_ERR` (R193). -/

namespace Sys2Proof.Machine

/-- The configuration of a successful `INIT`, and the block is operational (R21, R190). -/
def State.configure (s : State) (n : Nat) (txTimeout rxTimeout : Tick) : State :=
  { s with cfgN := n, cfgTxTimeout := txTimeout, cfgRxTimeout := rxTimeout, link := .operational }

/-- `INIT n, tx_timeout, rx_timeout` (R190), tests in the order given there. -/
def execInit (n : Nat) (txTimeout rxTimeout : Tick) (s : State) : Host.Outcome State Fault Refusal :=
  let s := s.takeOp
  .next <|
    if s.link ≠ .uninit then s.reply .busy
    else if n < 2 then s.reply .invalidArg
    else if s.params.rbMax < n then s.reply .allocFail
    else
      let s1 := s.emit (.xpRxStart n)
      if s1.nextAnswer then
        (s1.popAnswer.wipe.configure n txTimeout rxTimeout).reply .ok
      else s1.popAnswer.reply .xportErr

/-- Step 4 of `TICK` (R196): a frame that has reached `DataReceived` resets the parser, is announced (R199) and is routed. -/
def State.completeFrame (s : State) : State :=
  if s.rxState = .dataReceived then (s.rxReset.emit (.frameDone (s.rxByte 3) s.rxExpected)).routeFrame else s

/-- Steps 3 to 5 of `TICK` (R196), in the order of R197 and R219. -/
def State.tickTail (s : State) (now : Tick) : State :=
  (s.txLatencyStep.completeFrame.txTimeoutCheck now).rxTimeoutCheck now

/-- Steps 2 to 5 of `TICK` and its `OK` (R196). -/
def State.tickBody (s : State) (now : Tick) : Host.Outcome State Fault Refusal :=
  match s.rxStep now with
  | .next s1 => .next ((s1.tickTail now).reply .ok)
  | .fault f => .fault f
  | .refused r => .refused r

/-- `TICK now` (R196): not before `INIT`; a pending transport error is recovered from first (R195), and a failed recovery ends the tick. -/
def execTick (now : Tick) (s : State) : Host.Outcome State Fault Refusal :=
  let s := s.takeOp
  if s.link = .uninit then .next (s.reply .notReady)
  else if s.link = .transportError then
    if s.recover.1 then s.recover.2.tickBody now else .next (s.recover.2.reply .xportErr)
  else s.tickBody now

/-- `XPORT_ERR` (R193). -/
def execXportErr (s : State) : Host.Outcome State Fault Refusal := .next s.takeOp.enterError

end Sys2Proof.Machine
end

