-- ==== Sys2Proof/Machine/Wire.lean ====
section
/-! DEFINITION. The four wire frame types run as instructions (R81 to R84). A frame the block sends is the request that builds it (R150,
R155), whose `now` the frame does not carry and is a free value (assumption 5). A frame the display sends is its reception by the
transport, `RXBYTES` of its bytes (R101: `ACK` is `RXBYTES 5A A5 03 82 4F 4B`); the parser then recognises it, one byte per `TICK`
(assumption 6). -/

namespace Sys2Proof.Machine

/-- `WRITE_REQ` (R81; "semantics of building: rule R150"). A frame that breaks R81's length law is refused like a `count` that does
(R72, R151; assumption 7). -/
def execWriteReq (len : Byte) (addr : VpAddr) (body : List Byte) (s : State) : Host.Outcome State Fault Refusal :=
  .next (s.takeOp.drawFree.request
    (writeReqLawful len body && writeArgsOk s.params.txCap (body.length / 2))
    (writeFrame addr (bodyValues body)) .sendingWrite (Config.freeNow s.draws))

/-- `WRITE_ACK` (R82): the transport receives the acknowledgement (R101). -/
def execWriteAck (s : State) : Host.Outcome State Fault Refusal := .next (s.takeOp.receive ackFrame)

/-- `READ_REQ` (R83; "semantics of building: rule R155"). -/
def execReadReq (addr : VpAddr) (count : Byte) (s : State) : Host.Outcome State Fault Refusal :=
  .next (s.takeOp.drawFree.request (readArgsOk count) (readFrame addr count) .sendingRead
    (Config.freeNow s.draws))

/-- `READ_REPLY` (R84): the transport receives the reply, solicited or not (R101). -/
def execReadReply (len : Byte) (data : List Byte) (s : State) : Host.Outcome State Fault Refusal :=
  .next (s.takeOp.receive (frameBytes len 0x83#8 data))

end Sys2Proof.Machine
end

