-- ==== Sys2Proof/Machine/Dispatch.lean ====
section
/-! DEFINITION. One arm per instruction: its meaning. -/

namespace Sys2Proof.Machine

-- Every operation the block takes, and every wire frame, has one arm.
def exec (i : Instr) (s : State) : Host.Outcome State Fault Refusal :=
  match i with
  -- host commands (R87)
  | .init n txTimeout rxTimeout => Sys2Proof.Machine.execInit n txTimeout rxTimeout s
  | .tick now => Sys2Proof.Machine.execTick now s
  | .writeVp addr values now => Sys2Proof.Machine.execWriteVp addr values now s
  | .readVp addr count now => Sys2Proof.Machine.execReadVp addr count now s
  | .registerCb addr tag => Sys2Proof.Machine.execRegisterCb addr tag s
  | .isIdle => Sys2Proof.Machine.execIsIdle s
  -- transport events (R88)
  | .rbWrite idx byte => Sys2Proof.Machine.execRbWrite idx byte s
  | .rxProgress idx => Sys2Proof.Machine.execRxProgress idx s
  | .txDone => Sys2Proof.Machine.execTxDone s
  | .xportErr => Sys2Proof.Machine.execXportErr s
  -- wire frames (R81 to R84)
  | .writeReq len addr body => Sys2Proof.Machine.execWriteReq len addr body s
  | .writeAck => Sys2Proof.Machine.execWriteAck s
  | .readReq addr count => Sys2Proof.Machine.execReadReq addr count s
  | .readReply len data => Sys2Proof.Machine.execReadReply len data s

end Sys2Proof.Machine
end

