-- ==== Sys2Proof/Machine/Fetch.lean ====
section
/-! DEFINITION. What stands around an operation: which offer is taken next (R9, R10, R220), the reserved codes (R94), the reset input (R240,
R241), and how one operation is offered to the machine. -/

namespace Sys2Proof.Machine

/-- The offers waiting on a port. -/
def State.offers (s : State) : Port → List Offer
  | .host => s.hostPort
  | .xport => s.xportPort

/-- Both agents offer: the order is open (R9, R220). -/
def State.contended (s : State) : Bool := !s.hostPort.isEmpty && !s.xportPort.isEmpty

/-- Who is served when both agents offer: the agent the grants name, or a free value (U4; assumption 2). -/
def State.arbiter (s : State) : Port :=
  match s.grants with
  | g :: _ => g
  | [] => if Config.freeHostFirst s.draws then .host else .xport

/-- The port whose oldest offer is taken next; none when nothing is offered. -/
def State.granted (s : State) : Option Port :=
  match s.hostPort, s.xportPort with
  | [], [] => none
  | _ :: _, [] => some .host
  | [], _ :: _ => some .xport
  | _ :: _, _ :: _ => some s.arbiter

/-- The oldest offer on a port. -/
def State.offered (s : State) (p : Port) : Offer := (s.offers p).headD (.serial [])

/-- An arbitration uses a grant up, or a free value. -/
def State.useGrant (s : State) : State :=
  if s.contended then
    match s.grants with
    | _ :: gs => { s with grants := gs }
    | [] => { s with draws := s.draws + 1 }
  else s

/-- The oldest offer of a port is gone. -/
def State.dropOffer (s : State) : Port → State
  | .host => { s with hostPort := s.hostPort.tail }
  | .xport => { s with xportPort := s.xportPort.tail }

/-- Port `p` is served: the arbitration is used up and the offer is taken from the port. -/
def State.consume (s : State) (p : Port) : State := s.useGrant.dropOffer p

/-- A reserved code, or a code of the other port (R94): a host command answers `INVALID_ARG`, a transport event is ignored, and neither
changes any state. -/
def State.reservedCode (s : State) : Port → State
  | .host => s.takeOp.reply .invalidArg
  | .xport => s.takeOp

/-- `rst` (R240, R241): every element takes its reset value (R48); the parameters are no state of the block, and what the agents have
offered is still offered. The input is released, and the last operation's answer and outputs are cleared: both DESIGN CHOICE (assumptions 12
and 11), R240 says nothing of them. -/
def State.applyRst (s : State) : State :=
  { State.reset with
    params := s.params
    hostPort := s.hostPort
    xportPort := s.xportPort
    grants := s.grants
    xpAnswers := s.xpAnswers
    draws := s.draws }

/-- Puts one operation on a port as its only offer and has that port served next. -/
def State.offer (s : State) (p : Port) (o : Offer) : State :=
  match p with
  | .host =>
    { s with rst := false, hostPort := [o], grants := if s.xportPort.isEmpty then s.grants else .host :: s.grants }
  | .xport =>
    { s with rst := false, xportPort := [o], grants := if s.hostPort.isEmpty then s.grants else .xport :: s.grants }

end Sys2Proof.Machine
end

