-- ==== Sys2Proof/Machine/Step.lean ====
section
/-! DEFINITION. One step: the reset input first (R240), else the next offered operation, taken whole (R9). With nothing offered the block
does nothing (R201). -/

namespace Sys2Proof.Machine

/-- One step of the machine. -/
def step (s : State) : Host.Outcome State Fault Refusal :=
  if s.rst = true then .next s.applyRst
  else
    match s.granted with
    | none => .next s
    | some p =>
      match decodeOffer p (s.offered p) with
      | .instr i => exec i (s.consume p)
      | .reserved => .next ((s.consume p).reservedCode p)
      | .bad e => .refused (.undecodable p e)

/-- The instruction of a table word offered on its port, where `step` takes its next operation from (assumptions 16 and 17). -/
def State.withFetchWord (s : State) (nbits w : Nat) : State :=
  s.offer (tablePort (tableBytes nbits w)) (.serial (tableBytes nbits w))

end Sys2Proof.Machine
end

