-- ==== Sys2Proof/Safety.lean ====
section
/-! DEFINITION. What counts as a safe run, in the terms the statements use: the block's own elements, the invariants the spec gives them
(R20 to R39), the transport's publication duty (R67), which slots of the RX frame buffer have been written (R49), and the moves the
transition tables allow (R139, R164). -/

namespace Sys2Proof.Machine

/-- The elements of R20 and the parameters, with everything that stands outside the block blanked: `t.block = s.block` says that no
element of the block differs. -/
def State.block (s : State) : State :=
  { s with
    rst := false
    hostPort := []
    xportPort := []
    grants := []
    xpAnswers := []
    draws := 0
    answer := none
    outs := [] }

/-! ### The invariants -/

/-- R20, R21: once initialised, `2 <= N <= RB_MAX`. -/
abbrev State.CfgInv (s : State) : Prop := s.link ≠ .uninit → 2 ≤ s.cfgN ∧ s.cfgN ≤ s.params.rbMax

/-- R27: the indices stay in `-1 .. N-1`, and the tail is unset while the head is. -/
abbrev State.RingInv (s : State) : Prop :=
  -1 ≤ s.rbHead ∧ -1 ≤ s.rbTail ∧ (s.rbHead = -1 → s.rbTail = -1) ∧
    (s.link ≠ .uninit → s.rbHead < (s.cfgN : Int) ∧ s.rbTail < (s.cfgN : Int))

/-- R28, R29, R32: between operations the parser is not in `DataReceived`, a stored first byte belongs to `WaitingHeader`, and a frame
whose data is awaited has not all of it unless it has none. -/
abbrev State.RxInv (s : State) : Prop :=
  s.rxState ≠ .dataReceived ∧ (s.rxHdr1 = true → s.rxState = .waitingHeader) ∧
    (s.rxState = .waitingData → s.rxReceived ≤ s.rxExpected ∧ (s.rxReceived = s.rxExpected → s.rxExpected = 0#8))

/-- R35, R37: `ReadReplyReceived` never holds between operations, and `tx_len` stays in `0 .. min(TX_CAP, 258)`. -/
abbrev State.TxInv (s : State) : Prop :=
  s.txState ≠ .readReplyReceived ∧ s.txLen ≤ s.params.txCap ∧ s.txLen ≤ 258

/-- R20, R39: at most `CB_CAP` slots are used and a tag has `CB_TAG_W` bits. -/
abbrev State.CbInv (s : State) : Prop :=
  s.cbs.length ≤ s.params.cbCap ∧ ∀ c ∈ s.cbs, c.tag < 2 ^ s.params.cbTagW

/-- R20, R23, R30, R37: the memories are in canonical form and hold bytes only at indices that exist. -/
abbrev State.MemInv (s : State) : Prop :=
  s.rbMem.wf = true ∧ s.rxFb.wf = true ∧ s.txFb.wf = true ∧
    Memory.below s.cfgN s.rbMem = true ∧ Memory.below s.params.rxCap s.rxFb = true ∧
    Memory.below s.params.txCap s.txFb = true

/-- R48, R226, R242: before a successful `INIT` the ring, the parser, the transaction and the callback table are as reset leaves them. -/
abbrev State.UninitInv (s : State) : Prop :=
  s.link = .uninit →
    s.rbMem = [] ∧ s.rbHead = -1 ∧ s.rbTail = -1 ∧ s.rbOvf = false ∧ s.rxState = .waitingHeader ∧ s.rxHdr1 = false ∧
      s.txState = .idle ∧ s.cbs = []

/-- The legal values and invariants of `10_state.md`, under the constraints of R12. -/
abbrev State.Inv (s : State) : Prop :=
  s.params.Ok ∧ s.CfgInv ∧ s.RingInv ∧ s.RxInv ∧ s.TxInv ∧ s.CbInv ∧ s.MemInv ∧ s.UninitInv

/-! ### The publication duty of the transport (R67) and what it protects -/

/-- Every unread byte of the ring has a value (R49, R67): the bytes `rb_pop` will read. -/
abbrev State.Published (s : State) : Prop :=
  ∀ k < s.rbUnread.toNat, (s.rbMem.read ((s.rbTail + 1 + (k : Int)) % (s.cfgN : Int)).toNat).isSome = true

/-- `RB_WRITE` has been issued for every index that `RX_PROGRESS idx` newly declares written (R67). -/
abbrev State.Covers (s : State) (idx : Nat) : Prop :=
  ∀ k < (s.rbAdvance idx).toNat, (s.rbMem.read ((s.rbHead + 1 + (k : Int)) % (s.cfgN : Int)).toNat).isSome = true

/-- The transport does its duty (R67) if this instruction is a progress report that the block takes. -/
def State.Dutiful (s : State) : Instr → Prop
  | .rxProgress idx => s.link ≠ .uninit → idx < s.cfgN → s.Covers idx
  | _ => True

/-- The next `rb_pop`, if step 2 of a `TICK` makes one, finds a byte with a value. -/
abbrev State.PopReady (s : State) : Prop :=
  s.wantsByte = true → s.rbTail ≠ s.rbHead → (s.rbMem.read s.nextTail.toNat).isSome = true

/-- The slots of `rx_fb` that the parser's state lets a rule read have been written in this frame (R49). -/
abbrev State.RxWritten (s : State) : Prop :=
  (s.rxState = .waitingFunctionCode → (s.rxFb.read 2).isSome = true) ∧
    (s.rxState = .waitingData → (s.rxFb.read 3).isSome = true ∧
      ∀ k < s.rxReceived.toNat, 4 + k < s.params.rxCap → (s.rxFb.read (4 + k)).isSome = true)

/-- `s` and `s'` agree on everything some rule may still read before it is written again (R49): they may differ in the configuration
before `INIT`, in the expected and received counts outside `WaitingData`, in the start tick in `WaitingHeader`, in the send tick in
`Idle`, in `tx_fb` and `tx_len`, and in every slot of `rx_fb` but those the parser's state makes meaningful. -/
def State.SameMeaning (s s' : State) : Prop :=
  s' = { s with
    cfgN := s'.cfgN
    cfgTxTimeout := s'.cfgTxTimeout
    cfgRxTimeout := s'.cfgRxTimeout
    rxFb := s'.rxFb
    rxExpected := s'.rxExpected
    rxReceived := s'.rxReceived
    rxStartTick := s'.rxStartTick
    txSendTick := s'.txSendTick
    txFb := s'.txFb
    txLen := s'.txLen } ∧
  (s.link ≠ .uninit →
    s'.cfgN = s.cfgN ∧ s'.cfgTxTimeout = s.cfgTxTimeout ∧ s'.cfgRxTimeout = s.cfgRxTimeout) ∧
  (s.rxState ≠ .waitingHeader → s'.rxStartTick = s.rxStartTick) ∧
  (s.rxState = .waitingFunctionCode → s'.rxFb.read 2 = s.rxFb.read 2) ∧
  (s.rxState = .waitingData →
    s'.rxExpected = s.rxExpected ∧ s'.rxReceived = s.rxReceived ∧ s'.rxFb.read 3 = s.rxFb.read 3 ∧
      ∀ k < s.rxReceived.toNat, 4 + k < s.params.rxCap → s'.rxFb.read (4 + k) = s.rxFb.read (4 + k)) ∧
  (s.txState ≠ .idle → s'.txSendTick = s.txSendTick)

/-! ### The transition tables -/

/-- The rows of R164 for one operation: `tx_state` goes from its value in `s` to its value in `t`. A `TICK` may make, in this order, one
latency transition, one routing transition and one timeout transition (R200). -/
def State.TxMove (s : State) (i : Instr) (t : State) : Prop :=
  t.txState = s.txState ∨
    match i with
    | .writeVp _ _ _ => s.txState = .idle ∧ t.txState = .sendingWrite ∧ t.answer = some ⟨.ok, none⟩
    | .writeReq _ _ _ => s.txState = .idle ∧ t.txState = .sendingWrite ∧ t.answer = some ⟨.ok, none⟩
    | .readVp _ _ _ => s.txState = .idle ∧ t.txState = .sendingRead ∧ t.answer = some ⟨.ok, none⟩
    | .readReq _ _ => s.txState = .idle ∧ t.txState = .sendingRead ∧ t.answer = some ⟨.ok, none⟩
    | .txDone =>
      (s.txState = .sendingWrite ∧ t.txState = .writeSendComplete) ∨
        (s.txState = .sendingRead ∧ t.txState = .readSendComplete)
    | .tick now =>
      (s.link = .transportError ∧ t.txState = .idle) ∨
      (s.link = .operational ∧
        ((s.cfgTxTimeout ≤ now - s.txSendTick ∧ t.txState = .idle) ∨
         (s.txState = .writeSendComplete ∧ t.txState = .awaitingWriteAck) ∨
         (s.txState = .readSendComplete ∧ t.txState = .awaitingReadReply) ∨
         (s.txState = .writeAckReceived ∧ t.txState = .idle) ∨
         ((s.txState = .awaitingWriteAck ∨ s.txState = .writeSendComplete) ∧ t.txState = .writeAckReceived ∧
           Output.frameDone 0x82#8 0x02#8 ∈ t.outs) ∨
         ((s.txState = .awaitingReadReply ∨ s.txState = .readSendComplete) ∧ t.txState = .idle ∧
           ∃ nd, Output.frameDone 0x83#8 nd ∈ t.outs)))
    | _ => False

/-- The rows of R139 for one operation: `rx_state` goes from its value in `s` to its value in `t`. A completed frame passes through
`DataReceived` and is back in `WaitingHeader` within the same `TICK`, which announces it. -/
def State.RxMove (s : State) (i : Instr) (t : State) : Prop :=
  t.rxState = s.rxState ∨
    match i with
    | .tick now =>
      (s.link = .transportError ∧ t.rxState = .waitingHeader) ∨
      (s.link = .operational ∧
        ((s.rxState = .waitingHeader ∧ s.rxHdr1 = true ∧ t.rxState = .waitingLength ∧
           s.rbMem.read s.nextTail.toNat = some 0xA5#8 ∧ t.rbTail = s.nextTail) ∨
         (s.rxState = .waitingLength ∧ t.rxState = .waitingFunctionCode ∧ s.rbTail ≠ s.rbHead ∧ t.rbTail = s.nextTail) ∨
         (s.rxState = .waitingFunctionCode ∧ t.rxState = .waitingData ∧ s.rbTail ≠ s.rbHead ∧ t.rbTail = s.nextTail) ∨
         (s.rxState = .waitingData ∧ t.rxState = .waitingHeader ∧
           Output.frameDone (t.rxByte 3) t.rxExpected ∈ t.outs ∧
           ((s.rxReceived + 1#8 = s.rxExpected ∧ s.rbTail ≠ s.rbHead ∧ t.rbTail = s.nextTail) ∨
            (s.rxReceived = s.rxExpected ∧ t.rbTail = s.rbTail))) ∨
         (s.rxState ≠ .waitingHeader ∧ t.rxState = .waitingHeader ∧ s.cfgRxTimeout < now - s.rxStartTick)))
    | _ => False

/-! ### Runs -/

/-- A run of ticks, stopping at the first fault or refusal; the states after each tick are what the run's statements speak about. -/
def State.ticks : State → List Tick → Host.Outcome State Fault Refusal
  | s, [] => .next s
  | s, now :: nows =>
    match exec (.tick now) s with
    | .next s' => State.ticks s' nows
    | .fault f => .fault f
    | .refused r => .refused r

/-- `RB_WRITE` of `bs` to the indices `i, i+1, ...` (R117 b). -/
def State.storeRun : State → Nat → List Byte → State
  | s, _, [] => s
  | s, i, b :: bs => State.storeRun (s.storeByte i b) (i + 1) bs

/-- `n` successive `rb_pop` calls: the bytes they return and the state they leave, or nothing if one of them finds no byte. -/
def State.pops : State → Nat → Option (List Byte × State)
  | s, 0 => some ([], s)
  | s, n + 1 =>
    match s.rbPop with
    | .some b s' => (State.pops s' n).map fun r => (b :: r.1, r.2)
    | .none => none
    | .unwritten _ => none

/-- The parser fed byte after byte at one tick value, without the routing between. -/
def State.feedAll (s : State) (now : Tick) (bs : List Byte) : State := bs.foldl (fun s b => s.rxFeed b now) s

/-- No `A5` stands directly after a `5A` in `bs`, nor first in `bs` when `held` says a `5A` came before. -/
def noHeader : Bool → List Byte → Bool
  | _, [] => true
  | held, b :: bs => !(held && b == 0xA5#8) && noHeader (b == 0x5A#8) bs

end Sys2Proof.Machine
end

