-- ==== Sys2Proof/Certificates/Slice0/Obligations.lean ====
section
/-! DEFINITION. The statements for the provers, in the order of the spec's files. Each docstring names the rule it formalises. -/

open Sys2Proof Sys2Proof.Machine

/-! ### Reset and stepping (R9, R48, R94, R201, R240) -/

/-- R48: after hardware reset every element to which R48 gives a value has it. -/
def Obligations.ResetGivesTheSpecifiedValues : Prop :=
  State.reset.link = .uninit ∧ State.reset.rbHead = -1 ∧ State.reset.rbTail = -1 ∧ State.reset.txState = .idle ∧
    State.reset.rxState = .waitingHeader ∧ State.reset.rxHdr1 = false ∧ State.reset.rbOvf = false ∧ State.reset.cbN = 0

/-- R240: while `rst` is asserted no operation is taken (every offer is still there), and when it is released every element R48 gives a
value has it; the parameters are unchanged. That one step is the whole assertion is the model's choice (assumption 12), as is that it
clears the last answer and outputs (assumptions 11 and 12). -/
def Obligations.ResetInputTakesNoOperation : Prop :=
  ∀ s : State, s.rst = true →
    ∃ t, step s = .next t ∧ t.rst = false ∧ t.hostPort = s.hostPort ∧ t.xportPort = s.xportPort ∧ t.params = s.params ∧
      t.link = .uninit ∧ t.rbHead = -1 ∧ t.rbTail = -1 ∧ t.rbOvf = false ∧ t.rxState = .waitingHeader ∧ t.rxHdr1 = false ∧
      t.txState = .idle ∧ t.cbN = 0 ∧ t.answer = none ∧ t.outs = []

/-- A step runs the offered instruction: when the oldest offer of the port served next shows an instruction of that port with its operands in
parallel, whatever their widths (R87 to R89), or is bytes that decode to one, the step is that instruction's meaning at the state from which
the offer (and the arbitration that chose the port) is gone. The two forms of an offer are the model's choice (assumption 1). -/
def Obligations.StepRunsTheOfferedInstruction : Prop :=
  ∀ (s : State) (p : Port) (i : Instr) (o : Offer) (rest : List Offer),
    s.rst = false → s.granted = some p → s.offers p = o :: rest →
    (o = .parallel i ∧ i.port = p) ∨ (∃ bytes, o = .serial bytes ∧ decode p bytes = .instr i) →
      step s = exec i (s.consume p) ∧ (s.consume p).offers p = rest ∧ (s.consume p).block = s.block

/-- R9, R220: when both ports offer, each order is possible; that the first grant decides is the model's form of it (assumption 2). -/
def Obligations.BothOrdersAreAdmitted : Prop :=
  ∀ (s : State) (h x : Offer) (hs xs : List Offer) (gs : List Port),
    s.hostPort = h :: hs → s.xportPort = x :: xs →
      State.granted { s with grants := .host :: gs } = some .host ∧
      State.granted { s with grants := .xport :: gs } = some .xport ∧
      State.consume { s with grants := .host :: gs } .host = { s with grants := gs, hostPort := hs } ∧
      State.consume { s with grants := .xport :: gs } .xport = { s with grants := gs, xportPort := xs }

/-- R201: with nothing offered the block does nothing; that the machine then steps at all is the model's choice (assumption 13). -/
def Obligations.NothingOfferedChangesNothing : Prop :=
  ∀ s : State, s.rst = false → s.hostPort = [] → s.xportPort = [] → step s = .next s

/-- R94: a reserved code, or a code of the other port, answers `INVALID_ARG` on the host port and is ignored on the transport port; no
state changes. In serialised form the code is the first byte `0x0 ‖ op` (R96). -/
def Obligations.ReservedCodesChangeNothing : Prop :=
  ∀ (s : State) (o : Offer) (rest : List Offer), s.rst = false →
    (s.granted = some .host → s.hostPort = o :: rest →
      (∃ op operands, o = .serial (op :: operands) ∧ op.toNat < 16 ∧ (op.toNat = 0 ∨ 7 ≤ op.toNat)) ∨
        (∃ i, o = .parallel i ∧ i.isFrame = false ∧ i.port = .xport) →
      ∃ t, step s = .next t ∧ t.answer = some ⟨.invalidArg, none⟩ ∧ t.outs = [] ∧ t.block = s.block ∧
        t.hostPort = rest ∧ t.xportPort = s.xportPort) ∧
    (s.granted = some .xport → s.xportPort = o :: rest →
      (∃ op operands, o = .serial (op :: operands) ∧ op.toNat < 16 ∧ (op.toNat < 8 ∨ 12 ≤ op.toNat)) ∨
        (∃ i, o = .parallel i ∧ i.isFrame = false ∧ i.port = .host) →
      ∃ t, step s = .next t ∧ t.answer = none ∧ t.outs = [] ∧ t.block = s.block ∧
        t.xportPort = rest ∧ t.hostPort = s.hostPort)

/-! ### Encodings (R64, R80 to R84, R96) -/

/-- The examples of R96 and the frames of R82 and R83, written out byte by byte, decode to the operations they stand for. -/
def Obligations.DecodesTheSpecsOwnWords : Prop :=
  decode .host [0x01#8, 0x00#8, 0x10#8, 0x00#8, 0x00#8, 0x00#8, 0x64#8, 0x00#8, 0x00#8, 0x00#8, 0x32#8] =
      .instr (.init 16 100#32 50#32) ∧
    decode .host [0x02#8, 0x00#8, 0x00#8, 0x00#8, 0x07#8] = .instr (.tick 7#32) ∧
    decode .host [0x03#8, 0x10#8, 0x00#8, 0x02#8, 0x00#8, 0x64#8, 0x00#8, 0x32#8, 0x00#8, 0x00#8, 0x00#8, 0x05#8] =
      .instr (.writeVp 0x1000#16 [0x0064#16, 0x0032#16] 5#32) ∧
    decode .xport [0x08#8, 0x00#8, 0x03#8, 0x5A#8] = .instr (.rbWrite 3 0x5A#8) ∧
    decode .xport [0x0A#8] = .instr .txDone ∧
    decode .xport [0x5A#8, 0xA5#8, 0x03#8, 0x82#8, 0x4F#8, 0x4B#8] = .instr .writeAck ∧
    decode .host [0x5A#8, 0xA5#8, 0x04#8, 0x83#8, 0x00#8, 0x16#8, 0x03#8] = .instr (.readReq 0x0016#16 0x03#8)

/-- Decode and encode agree: for every well-formed instruction, with every operand at every value its encoding admits, decoding its bytes
on its own port gives it back, whatever follows. The port of a frame row and the reading of what follows are the model's choices
(assumptions 5, 6 and 15). -/
def Obligations.DecodeGivesBackWhatIsEncoded : Prop :=
  ∀ (i : Instr) (rest : List Byte), i.wf = true → decode i.port (encode i ++ rest) = .instr i

/-- The other direction: what decodes to an instruction on a port begins with that instruction's encoding, and the port is its own; so
two different instructions never share their bytes on one port. -/
def Obligations.DecodedBytesAreTheEncoding : Prop :=
  ∀ (p : Port) (bytes : List Byte) (i : Instr),
    decode p bytes = .instr i → i.port = p ∧ ∃ rest, bytes = encode i ++ rest

/-! ### The ring buffer (R27, R67, R101, R110 to R117) -/

/-- R110: `RB_WRITE` stores its byte at its index and nothing else, and is ignored before `INIT` and for an index out of range. -/
def Obligations.RbWriteStoresExactlyOneByte : Prop :=
  ∀ (s : State) (idx : Nat) (b : Byte),
    (s.link = .uninit ∨ s.cfgN ≤ idx → exec (.rbWrite idx b) s = .next { s with answer := none, outs := [] }) ∧
    (s.link ≠ .uninit → idx < s.cfgN →
      ∃ t, exec (.rbWrite idx b) s = .next t ∧ t.rbMem.read idx = some b ∧
        (∀ j, j ≠ idx → t.rbMem.read j = s.rbMem.read j) ∧
        t = { s with rbMem := t.rbMem, answer := none, outs := [] })

/-- R112, R113, R114: `RX_PROGRESS` records the head whether or not bytes were lost, and sets `rb_ovf` exactly when the unread bytes and
the declared advance together exceed the limit, judged on the state before; ignored before `INIT` and out of range. -/
def Obligations.RxProgressRecordsHeadAndOverflow : Prop :=
  ∀ (s : State) (idx : Nat),
    (s.link = .uninit ∨ s.cfgN ≤ idx → exec (.rxProgress idx) s = .next { s with answer := none, outs := [] }) ∧
    (s.link ≠ .uninit → idx < s.cfgN →
      ∃ t, exec (.rxProgress idx) s = .next t ∧ t.rbHead = (idx : Int) ∧
        (t.rbOvf = true ↔ s.rbOvf = true ∨
          (if s.rbTail = -1 then (s.cfgN : Int) else (s.cfgN : Int) - 1) <
            s.rbUnread + (if s.rbHead = -1 then (idx : Int) + 1 else ((idx : Int) - s.rbHead) % (s.cfgN : Int))) ∧
        t = { s with rbHead := t.rbHead, rbOvf := t.rbOvf, answer := none, outs := [] })

/-- R111: the unread count by cases, its range in each case, and that it is 0 exactly when the indices are equal. -/
def Obligations.UnreadCountByCases : Prop :=
  ∀ s : State, s.link ≠ .uninit → s.CfgInv → s.RingInv →
    (s.rbHead = -1 → s.rbUnread = 0) ∧
    (0 ≤ s.rbHead → s.rbTail = -1 → s.rbUnread = s.rbHead + 1 ∧ 0 ≤ s.rbUnread ∧ s.rbUnread ≤ (s.cfgN : Int) ∧
      (s.rbUnread = (s.cfgN : Int) ↔ s.rbHead = (s.cfgN : Int) - 1)) ∧
    (0 ≤ s.rbHead → 0 ≤ s.rbTail → s.rbUnread = (s.rbHead - s.rbTail) % (s.cfgN : Int) ∧
      0 ≤ s.rbUnread ∧ s.rbUnread ≤ (s.cfgN : Int) - 1) ∧
    (s.rbUnread = 0 ↔ s.rbTail = s.rbHead)

/-- R116: `rb_pop` finds nothing and changes nothing when the indices are equal; else it advances the tail modulo `N`, from unset to 0, and
yields the byte at the new tail. -/
def Obligations.PopAdvancesAndYields : Prop :=
  ∀ s : State,
    (s.rbTail = s.rbHead → s.rbPop = .none) ∧
    (s.rbTail ≠ s.rbHead → ∀ b, s.rbMem.read ((s.rbTail + 1) % (s.cfgN : Int)).toNat = some b →
      s.rbPop = .some b { s with rbTail := (s.rbTail + 1) % (s.cfgN : Int) })

/-- R117 (b): from the unset state, storing `N` bytes at `0 .. N-1`, publishing `N-1` and popping `N` times returns the bytes in order,
without overflow, and leaves the ring empty. -/
def Obligations.FirstLapReturnsTheBytesInOrder : Prop :=
  ∀ (s : State) (bytes : List Byte),
    s.link ≠ .uninit → 2 ≤ s.cfgN → s.rbHead = -1 → s.rbTail = -1 → s.rbOvf = false → bytes.length = s.cfgN →
      ∃ u, ((s.storeRun 0 bytes).publish (s.cfgN - 1)).pops s.cfgN = some (bytes, u) ∧
        u.rbHead = (s.cfgN : Int) - 1 ∧ u.rbTail = (s.cfgN : Int) - 1 ∧ u.rbOvf = false ∧ u.rbPop = .none

/-- R27: after every step that leaves the block initialised, the indices are in range, the tail is unset while the head is, and the ring is
empty exactly when the indices are equal. -/
def Obligations.RingIndicesStayInRange : Prop :=
  ∀ s t : State, s.Inv → step s = .next t → t.link ≠ .uninit →
    -1 ≤ t.rbHead ∧ t.rbHead < (t.cfgN : Int) ∧ -1 ≤ t.rbTail ∧ t.rbTail < (t.cfgN : Int) ∧
      (t.rbHead = -1 → t.rbTail = -1) ∧ (t.rbUnread = 0 ↔ t.rbTail = t.rbHead)

/-- R101 (model's choice for the two frames the display sends, assumption 6): the frame's bytes are stored after the head, in order, and the
head moves to the last of them; nothing else of the block changes, and before `INIT` nothing changes at all. -/
def Obligations.ReceivedFrameLandsInTheRing : Prop :=
  ∀ (s : State) (i : Instr) (bytes : List Byte),
    (i = .writeAck ∧ bytes = [0x5A#8, 0xA5#8, 0x03#8, 0x82#8, 0x4F#8, 0x4B#8]) ∨
      (∃ len data, i = .readReply len data ∧ bytes = [0x5A#8, 0xA5#8, len, 0x83#8] ++ data) →
    (s.link = .uninit → exec i s = .next { s with answer := none, outs := [] }) ∧
    (s.link ≠ .uninit → 0 < s.cfgN →
      ∃ t, exec i s = .next t ∧ t.rbHead = (s.rbHead + (bytes.length : Int)) % (s.cfgN : Int) ∧
        t.rbOvf = (s.rbOvf || s.overflows ((s.rbHead + (bytes.length : Int)) % (s.cfgN : Int)).toNat) ∧
        (bytes.length ≤ s.cfgN → ∀ j < bytes.length,
          t.rbMem.read ((s.rbHead + 1 + (j : Int)) % (s.cfgN : Int)).toNat = bytes[j]?) ∧
        (∀ x, (∀ j < bytes.length, x ≠ ((s.rbHead + 1 + (j : Int)) % (s.cfgN : Int)).toNat) →
          t.rbMem.read x = s.rbMem.read x) ∧
        t = { s with rbMem := t.rbMem, rbHead := t.rbHead, rbOvf := t.rbOvf, answer := none, outs := [] })

/-! ### The frame parser, seen through `TICK` (R131 to R143) -/

/-- R132: what a `TICK` does with a byte in `WaitingHeader`: `5A` is stored in slot 0 whether or not one is stored already, `A5` right after
it starts the frame at this tick, and any other byte only forgets a stored `5A`. The frame of the whole tick is stated. -/
def Obligations.TickDetectsTheHeader : Prop :=
  ∀ (s : State) (now : Tick) (b : Byte),
    s.link = .operational → s.rxState = .waitingHeader → s.rbTail ≠ s.rbHead → s.rbMem.read s.nextTail.toNat = some b →
    ∃ t, exec (.tick now) s = .next t ∧ t.rbTail = (s.rbTail + 1) % (s.cfgN : Int) ∧
      (b = 0x5A#8 → t.rxState = .waitingHeader ∧ t.rxHdr1 = true ∧ t.rxFb.read 0 = some 0x5A#8 ∧
        (∀ j, j ≠ 0 → t.rxFb.read j = s.rxFb.read j) ∧ t.rxStartTick = s.rxStartTick) ∧
      (b = 0xA5#8 → s.rxHdr1 = true → t.rxState = .waitingLength ∧ t.rxHdr1 = false ∧ t.rxFb.read 1 = some 0xA5#8 ∧
        (∀ j, j ≠ 1 → t.rxFb.read j = s.rxFb.read j) ∧ t.rxStartTick = now) ∧
      (b ≠ 0x5A#8 → (b ≠ 0xA5#8 ∨ s.rxHdr1 = false) → t.rxState = .waitingHeader ∧ t.rxHdr1 = false ∧ t.rxFb = s.rxFb ∧
        t.rxStartTick = s.rxStartTick) ∧
      t = { s with
        rbTail := t.rbTail, rxState := t.rxState, rxHdr1 := t.rxHdr1, rxFb := t.rxFb, rxStartTick := t.rxStartTick
        txState := t.txState, answer := some ⟨.ok, none⟩, outs := [] }

/-- R133, R134, R73: a `TICK` with a byte in `WaitingLength` stores it in slot 2; in `WaitingFunctionCode` it stores it in slot 3, expects
`(LEN - 1) mod 256` data bytes and has received none. The parser then goes on unless the frame has timed out in this very tick (R140). -/
def Obligations.TickStoresLengthAndFunctionCode : Prop :=
  ∀ (s : State) (now : Tick) (b : Byte),
    s.link = .operational → s.rbTail ≠ s.rbHead → s.rbMem.read s.nextTail.toNat = some b →
    (s.rxState = .waitingLength →
      ∃ t, exec (.tick now) s = .next t ∧ t.rbTail = (s.rbTail + 1) % (s.cfgN : Int) ∧ t.rxFb.read 2 = some b ∧
        (∀ j, j ≠ 2 → t.rxFb.read j = s.rxFb.read j) ∧
        t.rxState = (if s.cfgRxTimeout < now - s.rxStartTick then .waitingHeader else .waitingFunctionCode) ∧
        t = { s with
          rbTail := t.rbTail, rxState := t.rxState, rxFb := t.rxFb
          rxHdr1 := (if s.cfgRxTimeout < now - s.rxStartTick then false else s.rxHdr1)
          txState := t.txState, answer := some ⟨.ok, none⟩, outs := [] }) ∧
    (s.rxState = .waitingFunctionCode → ∀ len, s.rxFb.read 2 = some len →
      ∃ t, exec (.tick now) s = .next t ∧ t.rbTail = (s.rbTail + 1) % (s.cfgN : Int) ∧ t.rxFb.read 3 = some b ∧
        (∀ j, j ≠ 3 → t.rxFb.read j = s.rxFb.read j) ∧
        (t.rxExpected.toNat : Int) = ((len.toNat : Int) - 1) % 256 ∧ t.rxReceived = 0#8 ∧
        t.rxState = (if s.cfgRxTimeout < now - s.rxStartTick then .waitingHeader else .waitingData) ∧
        t = { s with
          rbTail := t.rbTail, rxState := t.rxState, rxFb := t.rxFb, rxExpected := t.rxExpected, rxReceived := t.rxReceived
          rxHdr1 := (if s.cfgRxTimeout < now - s.rxStartTick then false else s.rxHdr1)
          txState := t.txState, answer := some ⟨.ok, none⟩, outs := [] })

/-- R135, R143: a `TICK` with a byte in `WaitingData` stores it in slot `4 + rx_received` if the buffer has that slot and drops it silently
otherwise, counts it in both cases, and leaves `WaitingData` exactly when the count reaches the expected one (the completed frame is
announced and the parser waits for a header again, R136, R199) or the frame times out in this tick. -/
def Obligations.TickStoresOrDropsDataByte : Prop :=
  ∀ (s : State) (now : Tick) (b : Byte),
    s.link = .operational → s.rxState = .waitingData → s.rxReceived ≠ s.rxExpected → s.rbTail ≠ s.rbHead →
    s.rbMem.read s.nextTail.toNat = some b →
    ∃ t, exec (.tick now) s = .next t ∧ t.answer = some ⟨.ok, none⟩ ∧
      t.rbTail = (s.rbTail + 1) % (s.cfgN : Int) ∧ t.rxReceived = s.rxReceived + 1#8 ∧ t.rxExpected = s.rxExpected ∧
      (4 + s.rxReceived.toNat < s.params.rxCap → t.rxFb.read (4 + s.rxReceived.toNat) = some b ∧
        ∀ j, j ≠ 4 + s.rxReceived.toNat → t.rxFb.read j = s.rxFb.read j) ∧
      (s.params.rxCap ≤ 4 + s.rxReceived.toNat → t.rxFb = s.rxFb) ∧
      (s.rxReceived + 1#8 = s.rxExpected → t.rxState = .waitingHeader ∧ t.rxHdr1 = false ∧
        t.outs.head? = some (.frameDone (s.rxByte 3) s.rxExpected)) ∧
      (s.rxReceived + 1#8 ≠ s.rxExpected → t.outs = [] ∧
        t.rxState = (if s.cfgRxTimeout < now - s.rxStartTick then .waitingHeader else .waitingData))

/-- R136, R137: a frame without data (`rx_received = rx_expected` in `WaitingData`) completes in the next tick without taking a byte from
the ring; it is announced, and dispatched to nobody. -/
def Obligations.FrameWithoutDataTakesNoByte : Prop :=
  ∀ (s : State) (now : Tick),
    s.link = .operational → s.rxState = .waitingData → s.rxReceived = 0#8 → s.rxExpected = 0#8 →
    ∃ t, exec (.tick now) s = .next t ∧ t.outs = [.frameDone (s.rxByte 3) 0x00#8] ∧
      t = { s with
        rxState := .waitingHeader, rxHdr1 := false, txState := t.txState, answer := some ⟨.ok, none⟩, outs := t.outs }

/-- R140, R137, R132 d: a `TICK` with an empty ring. A partial frame is discarded exactly when more than `cfg_rx_timeout` ticks have passed
since its start; a parser waiting for a header stays as it is, a stored `5A` included; the ring, the buffer and the counts are kept. -/
def Obligations.TickWithAnEmptyRingJudgesOnlyTheDeadline : Prop :=
  ∀ (s : State) (now : Tick),
    s.link = .operational → s.rbTail = s.rbHead →
    ((s.rxState = .waitingLength ∨ s.rxState = .waitingFunctionCode ∨
        (s.rxState = .waitingData ∧ s.rxReceived ≠ s.rxExpected)) →
      ∃ t, exec (.tick now) s = .next t ∧
        (s.cfgRxTimeout < now - s.rxStartTick → t.rxState = .waitingHeader ∧ t.rxHdr1 = false) ∧
        (¬ s.cfgRxTimeout < now - s.rxStartTick → t.rxState = s.rxState ∧ t.rxHdr1 = s.rxHdr1) ∧
        t = { s with
          rxState := t.rxState, rxHdr1 := t.rxHdr1, txState := t.txState, answer := some ⟨.ok, none⟩, outs := [] }) ∧
    (s.rxState = .waitingHeader →
      ∃ t, exec (.tick now) s = .next t ∧ t = { s with txState := t.txState, answer := some ⟨.ok, none⟩, outs := [] })

/-- R138, R200: whatever is unread, a `TICK` takes at most one byte from the ring, completes at most one frame, fires at most one callback,
asks the transport for at most one abort and one restart, and never starts a transmission. -/
def Obligations.TickDoesAtMostOneOfEach : Prop :=
  ∀ (s t : State) (now : Tick), exec (.tick now) s = .next t →
    (t.rbTail = s.rbTail ∨ t.rbTail = (s.rbTail + 1) % (s.cfgN : Int) ∨ (s.link = .transportError ∧ t.rbTail = -1)) ∧
    (t.outs.filter fun o => match o with | .frameDone _ _ => true | _ => false).length ≤ 1 ∧
    (t.outs.filter fun o => match o with | .cbFire _ _ _ _ _ _ => true | _ => false).length ≤ 1 ∧
    (t.outs.filter fun o => match o with | .xpAbort => true | _ => false).length ≤ 1 ∧
    (t.outs.filter fun o => match o with | .xpRxStart _ => true | _ => false).length ≤ 1 ∧
    ∀ bytes, Output.xpTxStart bytes ∉ t.outs

/-- R80, R85, R130 to R136, R34: fed the bytes of a frame from `WaitingHeader`, for every length byte, function code and data of the
announced length, the parser ends with that frame: the counts, the function code, and every data byte that fits the buffer in its slot. -/
def Obligations.ParserRebuildsEveryFrame : Prop :=
  ∀ (s : State) (now : Tick) (len fc : Byte) (data : List Byte),
    s.rxState = .waitingHeader → 7 ≤ s.params.rxCap → data.length = dataCount len →
    let t := s.feedAll now ([0x5A#8, 0xA5#8, len, fc] ++ data)
    t.rxState = (if data.length = 0 then .waitingData else .dataReceived) ∧ t.rxExpected.toNat = data.length ∧
      t.rxReceived = t.rxExpected ∧ t.rxHdr1 = false ∧ t.rxStartTick = now ∧ t.rxByte 2 = len ∧ t.rxByte 3 = fc ∧
      t.rxSlice 4 t.rxStored = data.take (s.params.rxCap - 4)

/-- The source's resilience property (S7) under R132: bytes in which no `A5` directly follows a `5A` leave the parser in `WaitingHeader`, and
a header right after them, even one whose `5A` follows a spurious `5A`, is found. -/
def Obligations.SpuriousBytesDoNotHideAHeader : Prop :=
  ∀ (s : State) (now : Tick) (junk : List Byte),
    s.rxState = .waitingHeader → noHeader s.rxHdr1 junk = true →
      (s.feedAll now junk).rxState = .waitingHeader ∧
      (s.feedAll now (junk ++ [0x5A#8, 0xA5#8])).rxState = .waitingLength

/-- R139: the complete transition table of `rx_state`: whatever operation the block performs, `rx_state` keeps its value or makes a move
of the table, for the cause the table gives. -/
def Obligations.RxStateMovesOnlyByTheTable : Prop :=
  ∀ (s t : State) (i : Instr), s.Inv → exec i s = .next t → s.RxMove i t

/-! ### The transaction state machine (R150 to R174) -/

/-- R150, R151: `WRITE_VP`, whole: its refusals in the order tested, each changing nothing; the frame it builds and offers; what a refused
and what an accepted hand-off leave. Values are copied in operand order, high byte first. -/
def Obligations.WriteVpBuildsSendsAndRefuses : Prop :=
  ∀ (s : State) (addr : VpAddr) (values : List Value) (now : Tick),
    let count := values.length
    let frame := [0x5A#8, 0xA5#8, BitVec.ofNat 8 (2 * count + 3), 0x82#8, hiByte addr, loByte addr] ++
      values.flatMap fun v => [hiByte v, loByte v]
    let legal := count ≠ 0 ∧ count ≤ 126 ∧ 2 * count + 6 ≤ s.params.txCap
    (s.link ≠ .operational →
      exec (.writeVp addr values now) s = .next { s with answer := some ⟨.notReady, none⟩, outs := [] }) ∧
    (s.link = .operational → s.txState ≠ .idle →
      exec (.writeVp addr values now) s = .next { s with answer := some ⟨.busy, none⟩, outs := [] }) ∧
    (s.link = .operational → s.txState = .idle → ¬ legal →
      exec (.writeVp addr values now) s = .next { s with answer := some ⟨.invalidArg, none⟩, outs := [] }) ∧
    (s.link = .operational → s.txState = .idle → legal →
      ∃ t, exec (.writeVp addr values now) s = .next t ∧ t.outs = [.xpTxStart frame] ∧ t.txLen = 2 * count + 6 ∧
        (∀ k, k < 2 * count + 6 → t.txFb.read k = frame[k]?) ∧
        (∀ k, 2 * count + 6 ≤ k → t.txFb.read k = s.txFb.read k) ∧
        (s.nextAnswer = false → t = { s.popAnswer with
          txFb := t.txFb, txLen := t.txLen, answer := some ⟨.xportErr, none⟩, outs := t.outs }) ∧
        (s.nextAnswer = true → t = { s.popAnswer with
          txFb := t.txFb, txLen := t.txLen, txSendTick := now, txState := .sendingWrite
          answer := some ⟨.ok, none⟩, outs := t.outs }))

/-- R155: `READ_VP`, whole: refusals in the order tested, the fixed 7-byte frame, refused and accepted hand-off. `TX_CAP` plays no part. -/
def Obligations.ReadVpBuildsSendsAndRefuses : Prop :=
  ∀ (s : State) (addr : VpAddr) (count : Byte) (now : Tick),
    let frame := [0x5A#8, 0xA5#8, 0x04#8, 0x83#8, hiByte addr, loByte addr, count]
    (s.link ≠ .operational →
      exec (.readVp addr count now) s = .next { s with answer := some ⟨.notReady, none⟩, outs := [] }) ∧
    (s.link = .operational → s.txState ≠ .idle →
      exec (.readVp addr count now) s = .next { s with answer := some ⟨.busy, none⟩, outs := [] }) ∧
    (s.link = .operational → s.txState = .idle → count = 0#8 →
      exec (.readVp addr count now) s = .next { s with answer := some ⟨.invalidArg, none⟩, outs := [] }) ∧
    (s.link = .operational → s.txState = .idle → count ≠ 0#8 →
      ∃ t, exec (.readVp addr count now) s = .next t ∧ t.outs = [.xpTxStart frame] ∧ t.txLen = 7 ∧
        (∀ k, k < 7 → t.txFb.read k = frame[k]?) ∧ (∀ k, 7 ≤ k → t.txFb.read k = s.txFb.read k) ∧
        (s.nextAnswer = false → t = { s.popAnswer with
          txFb := t.txFb, txLen := t.txLen, answer := some ⟨.xportErr, none⟩, outs := t.outs }) ∧
        (s.nextAnswer = true → t = { s.popAnswer with
          txFb := t.txFb, txLen := t.txLen, txSendTick := now, txState := .sendingRead
          answer := some ⟨.ok, none⟩, outs := t.outs }))

/-- R153: a refused hand-off answers `XPORT_ERR` and leaves `tx_state` at `Idle`, `tx_send_tick` and `link` as they were, for a write and
for a read; the same request issued again and then accepted opens the transaction. -/
def Obligations.RefusedHandOffMayBeRepeated : Prop :=
  ∀ (s : State) (i : Instr),
    ((∃ addr values now, i = .writeVp addr values now ∧ values.length ≠ 0 ∧ values.length ≤ 126 ∧
        2 * values.length + 6 ≤ s.params.txCap) ∨
      (∃ addr count now, i = .readVp addr count now ∧ count ≠ 0#8)) →
    s.link = .operational → s.txState = .idle → s.nextAnswer = false →
    ∃ t, exec i s = .next t ∧ t.answer = some ⟨.xportErr, none⟩ ∧ t.txState = .idle ∧ t.txSendTick = s.txSendTick ∧
      t.link = .operational ∧
      (s.popAnswer.nextAnswer = true →
        ∃ u, exec i t = .next u ∧ u.answer = some ⟨.ok, none⟩ ∧ u.txState ≠ .idle ∧ u.outs = t.outs)

/-- What `WRITE_VP` hands to the transport reads back, as a frame the block sends, as the write request of R81 for the same address and
values (R86). -/
def Obligations.OfferedWriteFrameReadsBack : Prop :=
  ∀ (s : State) (addr : VpAddr) (values : List Value) (now : Tick),
    s.link = .operational → s.txState = .idle → values.length ≠ 0 → values.length ≤ 126 →
    2 * values.length + 6 ≤ s.params.txCap →
    ∃ t bytes len body, exec (.writeVp addr values now) s = .next t ∧ t.outs = [.xpTxStart bytes] ∧
      decode .host bytes = .instr (.writeReq len addr body) ∧ (Instr.writeReq len addr body).wf = true ∧
      bodyValues body = values ∧ len.toNat = 2 * values.length + 3

/-- WRITE_REQ as an instruction (R81, "semantics of building: rule R150"; assumption 5, model's choice): it is refused as a request is, and
else the block sends exactly that frame. The send tick is left open (a free value). A frame that breaks R81's length law is refused as an
illegal argument (assumption 7). -/
def Obligations.WriteReqSendsItsOwnBytes : Prop :=
  ∀ (s : State) (len : Byte) (addr : VpAddr) (body : List Byte),
    (s.link ≠ .operational →
      exec (.writeReq len addr body) s = .next { s.drawFree with answer := some ⟨.notReady, none⟩, outs := [] }) ∧
    (s.link = .operational → s.txState ≠ .idle →
      exec (.writeReq len addr body) s = .next { s.drawFree with answer := some ⟨.busy, none⟩, outs := [] }) ∧
    (s.link = .operational → s.txState = .idle →
      ((Instr.writeReq len addr body).wf = true → body.length + 6 ≤ s.params.txCap →
        ∃ t, exec (.writeReq len addr body) s = .next t ∧ t.outs = [.xpTxStart (encode (.writeReq len addr body))] ∧
          t.txLen = body.length + 6 ∧
          (∀ k, k < body.length + 6 → t.txFb.read k = (encode (.writeReq len addr body))[k]?) ∧
          (∀ k, body.length + 6 ≤ k → t.txFb.read k = s.txFb.read k) ∧
          (s.drawFree.nextAnswer = true → t = { s.drawFree.popAnswer with
            txFb := t.txFb, txLen := t.txLen, txSendTick := t.txSendTick, txState := .sendingWrite
            answer := some ⟨.ok, none⟩, outs := t.outs }) ∧
          (s.drawFree.nextAnswer = false → t = { s.drawFree.popAnswer with
            txFb := t.txFb, txLen := t.txLen, answer := some ⟨.xportErr, none⟩, outs := t.outs })) ∧
      ((Instr.writeReq len addr body).wf = false ∨ s.params.txCap < body.length + 6 →
        exec (.writeReq len addr body) s =
          .next { s.drawFree with answer := some ⟨.invalidArg, none⟩, outs := [] }))

/-- READ_REQ as an instruction (R83, "semantics of building: rule R155"; assumption 5, model's choice): it is refused as a request is, and
else the block sends exactly that frame; the send tick is left open. -/
def Obligations.ReadReqSendsItsOwnBytes : Prop :=
  ∀ (s : State) (addr : VpAddr) (count : Byte),
    (s.link ≠ .operational →
      exec (.readReq addr count) s = .next { s.drawFree with answer := some ⟨.notReady, none⟩, outs := [] }) ∧
    (s.link = .operational → s.txState ≠ .idle →
      exec (.readReq addr count) s = .next { s.drawFree with answer := some ⟨.busy, none⟩, outs := [] }) ∧
    (s.link = .operational → s.txState = .idle →
      (count ≠ 0#8 →
        ∃ t, exec (.readReq addr count) s = .next t ∧ t.outs = [.xpTxStart (encode (.readReq addr count))] ∧ t.txLen = 7 ∧
          (∀ k, k < 7 → t.txFb.read k = (encode (.readReq addr count))[k]?) ∧
          (∀ k, 7 ≤ k → t.txFb.read k = s.txFb.read k) ∧
          (s.drawFree.nextAnswer = true → t = { s.drawFree.popAnswer with
            txFb := t.txFb, txLen := t.txLen, txSendTick := t.txSendTick, txState := .sendingRead
            answer := some ⟨.ok, none⟩, outs := t.outs }) ∧
          (s.drawFree.nextAnswer = false → t = { s.drawFree.popAnswer with
            txFb := t.txFb, txLen := t.txLen, answer := some ⟨.xportErr, none⟩, outs := t.outs })) ∧
      (count = 0#8 →
        exec (.readReq addr count) s = .next { s.drawFree with answer := some ⟨.invalidArg, none⟩, outs := [] }))

/-- R158: `TX_DONE` moves the two sending states and is ignored in every other, in every link state. -/
def Obligations.TxDoneMovesOnlySendingStates : Prop :=
  ∀ s : State,
    exec .txDone s = .next { s with
      txState :=
        if s.txState = .sendingWrite then .writeSendComplete
        else if s.txState = .sendingRead then .readSendComplete
        else s.txState
      answer := none, outs := [] }

/-- R160, R47: `IS_IDLE` answers `OK` and whether `tx_state` is `Idle`, in every link state, writes nothing, and agrees with `st_idle`. -/
def Obligations.IsIdleIsAPureQuery : Prop :=
  ∀ s : State, ∃ idle : Bool,
    exec .isIdle s = .next { s with answer := some ⟨.ok, some idle⟩, outs := [] } ∧ (idle = true ↔ s.txState = .idle) ∧
      s.stIdle = idle

/-- R162, R166, R170, in the step order of R196: what `tx_state` is after a `TICK` of an operational block. Once
`now - tx_send_tick >= cfg_tx_timeout` it is `Idle`. Before that it is the latency successor of what it was, moved on by the frame the tick
completed, if any: a read reply closes a read that awaits it, an exact acknowledgement is received by a write that awaits it. -/
def Obligations.TickMovesTheTransactionInStepOrder : Prop :=
  ∀ (s t : State) (now : Tick), s.link = .operational → exec (.tick now) s = .next t →
    let latent : TxState :=
      match s.txState with
      | .writeSendComplete => .awaitingWriteAck
      | .readSendComplete => .awaitingReadReply
      | .writeAckReceived => .idle
      | .readReplyReceived => .idle
      | other => other
    (t.outs = [] ∨ ∃ fc nd rest, t.outs = .frameDone fc nd :: rest) ∧
    (s.cfgTxTimeout ≤ now - s.txSendTick → t.txState = .idle) ∧
    (¬ s.cfgTxTimeout ≤ now - s.txSendTick →
      (t.outs = [] → t.txState = latent) ∧
      (∀ fc nd rest, t.outs = .frameDone fc nd :: rest →
        t.txState =
          if fc = 0x83#8 ∧ latent = .awaitingReadReply then .idle
          else if fc = 0x82#8 ∧ nd = 0x02#8 ∧ t.rxByte 4 = 0x4F#8 ∧ t.rxByte 5 = 0x4B#8 ∧ latent = .awaitingWriteAck then
            .writeAckReceived
          else latent))

/-- R95, R166, R183, R199: what a completed frame does, for each class of frame and in every `tx_state`. The parser waits for a header again
and nothing but `tx_state` and the outputs differs otherwise. A frame with function code `83` closes a read that awaits its reply; with three
or more data bytes it fires the lowest slot that watches its address, if any. The exact acknowledgement moves a write that awaits it. Any
other frame is only announced. -/
def Obligations.CompletedFrameIsRoutedByClass : Prop :=
  ∀ s : State, s.rxState = .dataReceived →
    let t := s.completeFrame
    let a : VpAddr := s.rxByte 4 ++ s.rxByte 5
    let plen := min s.rxExpected.toNat (s.params.rxCap - 4) - 3
    t = { s with rxState := .waitingHeader, rxHdr1 := false, txState := t.txState, outs := t.outs } ∧
    (s.rxByte 3 = 0x83#8 →
      (s.txState = .awaitingReadReply → t.txState = .idle) ∧ (s.txState ≠ .awaitingReadReply → t.txState = s.txState) ∧
      (s.rxExpected.toNat < 3 → t.outs = s.outs ++ [.frameDone 0x83#8 s.rxExpected]) ∧
      (3 ≤ s.rxExpected.toNat → (∀ c ∈ s.cbs, c.addr ≠ a) → t.outs = s.outs ++ [.frameDone 0x83#8 s.rxExpected]) ∧
      (3 ≤ s.rxExpected.toNat → ∀ i c, s.cbs[i]? = some c → c.addr = a →
        (∀ j d, j < i → s.cbs[j]? = some d → d.addr ≠ a) →
        t.outs = s.outs ++ [.frameDone 0x83#8 s.rxExpected,
          .cbFire i c.tag a (s.rxByte 6) plen ((List.range plen).map fun k => s.rxByte (7 + k))])) ∧
    (s.rxByte 3 = 0x82#8 → s.rxExpected = 2#8 → s.rxByte 4 = 0x4F#8 → s.rxByte 5 = 0x4B#8 →
      t.outs = s.outs ++ [.frameDone 0x82#8 2#8] ∧
      (s.txState = .awaitingWriteAck → t.txState = .writeAckReceived) ∧
      (s.txState ≠ .awaitingWriteAck → t.txState = s.txState)) ∧
    (s.rxByte 3 ≠ 0x83#8 →
      ¬ (s.rxByte 3 = 0x82#8 ∧ s.rxExpected = 2#8 ∧ s.rxByte 4 = 0x4F#8 ∧ s.rxByte 5 = 0x4B#8) →
      t.txState = s.txState ∧ t.outs = s.outs ++ [.frameDone (s.rxByte 3) s.rxExpected])

/-- R196, R199, R183: the outputs of a `TICK` of an operational block, whatever `tx_state` is. A tick that completes a frame (the last data
byte is popped, or none is expected) announces it, and then fires the lowest slot watching its address if it is a read reply with three or
more data bytes; any other tick emits nothing. The bytes are those of the RX buffer after the tick. -/
def Obligations.TickAnnouncesAndDispatches : Prop :=
  ∀ (s t : State) (now : Tick), s.link = .operational → s.rxState ≠ .dataReceived → exec (.tick now) s = .next t →
    let completes := s.rxState = .waitingData ∧
      (s.rxReceived = s.rxExpected ∨ (s.rxReceived + 1#8 = s.rxExpected ∧ s.rbTail ≠ s.rbHead))
    let done : Output := .frameDone (t.rxByte 3) t.rxExpected
    let a : VpAddr := t.rxByte 4 ++ t.rxByte 5
    let plen := min t.rxExpected.toNat (s.params.rxCap - 4) - 3
    (¬ completes → t.outs = []) ∧
    (completes →
      (t.rxByte 3 ≠ 0x83#8 ∨ t.rxExpected.toNat < 3 ∨ (∀ c ∈ s.cbs, c.addr ≠ a) → t.outs = [done]) ∧
      (t.rxByte 3 = 0x83#8 → 3 ≤ t.rxExpected.toNat → ∀ i c, s.cbs[i]? = some c → c.addr = a →
        (∀ j d, j < i → s.cbs[j]? = some d → d.addr ≠ a) →
        t.outs = [done, .cbFire i c.tag a (t.rxByte 6) plen ((List.range plen).map fun k => t.rxByte (7 + k))]))

/-- R164: the complete transition table of `tx_state`, its reset row included: whatever operation the block performs, `tx_state` keeps its
value or makes a move of the table, for the cause the table gives. Reset as one step is the model's choice (assumption 12). -/
def Obligations.TxStateMovesOnlyByTheTable : Prop :=
  (∀ (s t : State) (i : Instr), s.Inv → exec i s = .next t → s.TxMove i t) ∧
    ∀ s : State, s.rst = true → ∃ t, step s = .next t ∧ t.txState = .idle

/-- R262, S1: from an open write whose frame is still being sent, `TX_DONE`, the acknowledgement on the wire and seven ticks that meet no
deadline close the transaction: after six it is `WriteAckReceived`, after the seventh `Idle`. The acknowledgement is run as the reception
of its bytes (assumption 6, model's choice). -/
def Obligations.AcknowledgedWriteClosesInSevenTicks : Prop :=
  ∀ (s : State) (t1 t2 t3 t4 t5 t6 t7 : Tick),
    s.Inv → s.link = .operational → s.txState = .sendingWrite → s.rxState = .waitingHeader → s.rbTail = s.rbHead → 7 ≤ s.cfgN →
    (∀ now ∈ [t1, t2, t3, t4, t5, t6], ¬ s.cfgTxTimeout ≤ now - s.txSendTick) →
    (∀ now ∈ [t3, t4, t5, t6], ¬ s.cfgRxTimeout < now - t2) →
    ∃ u v w x, exec .txDone s = .next u ∧ exec .writeAck u = .next v ∧
      v.ticks [t1, t2, t3, t4, t5, t6] = .next w ∧ w.txState = .writeAckReceived ∧ w.outs = [.frameDone 0x82#8 0x02#8] ∧
      w.ticks [t7] = .next x ∧ x.txState = .idle ∧ x.outs = [] ∧ x.rbTail = x.rbHead

/-! ### The callback registry (R39, R40, R180 to R185) -/

/-- R180, R181: `REGISTER_CB`, whole: refused when not operational and when the table is full; else the next slot takes the address and the
tag, duplicates included. A tag of `CB_TAG_W` bits is stored as it is. -/
def Obligations.RegisterCbFillsTheNextSlot : Prop :=
  ∀ (s : State) (addr : VpAddr) (tag : Nat),
    (s.link ≠ .operational →
      exec (.registerCb addr tag) s = .next { s with answer := some ⟨.notReady, none⟩, outs := [] }) ∧
    (s.link = .operational → s.cbN = s.params.cbCap →
      exec (.registerCb addr tag) s = .next { s with answer := some ⟨.capacity, none⟩, outs := [] }) ∧
    (s.link = .operational → s.cbN ≠ s.params.cbCap → tag < 2 ^ s.params.cbTagW →
      ∃ t, exec (.registerCb addr tag) s = .next t ∧ t.cbN = s.cbN + 1 ∧
        t.cbs[s.cbN]? = some { addr := addr, tag := tag } ∧ (∀ i, i < s.cbN → t.cbs[i]? = s.cbs[i]?) ∧
        t = { s with cbs := t.cbs, answer := some ⟨.ok, none⟩, outs := [] })

/-- R183, R184, R40: `dispatch` for a frame with three or more data bytes fires the lowest slot that watches the frame's address, once, with
the frame's `COUNT` byte and the payload bytes held; with no such slot, or with fewer than three data bytes, nothing happens. -/
def Obligations.DispatchFiresTheFirstMatch : Prop :=
  ∀ s : State,
    let a : VpAddr := s.rxByte 4 ++ s.rxByte 5
    let plen := min s.rxExpected.toNat (s.params.rxCap - 4) - 3
    (s.rxExpected.toNat < 3 → s.dispatch = s) ∧
    (3 ≤ s.rxExpected.toNat → (∀ c ∈ s.cbs, c.addr ≠ a) → s.dispatch = s) ∧
    (3 ≤ s.rxExpected.toNat → ∀ i c, s.cbs[i]? = some c → c.addr = a →
      (∀ j d, j < i → s.cbs[j]? = some d → d.addr ≠ a) →
      s.dispatch = { s with
        outs := s.outs ++ [.cbFire i c.tag a (s.rxByte 6) plen ((List.range plen).map fun k => s.rxByte (7 + k))] })

/-- R84, R95, R166, R183, R185, R262: a read reply of any length and content, arriving whole in an empty ring while a read waits for it, is
delivered: after as many ticks as it has bytes, none meeting a deadline, the read is closed and the last tick's outputs are the frame's
announcement and one `CB_FIRE` with its address, `COUNT` and whole (or truncated) payload if the address is watched. The reply is run as the
reception of its bytes (assumption 6, model's choice). -/
def Obligations.ReadReplyIsDelivered : Prop :=
  ∀ (s : State) (len : Byte) (data : List Byte) (nows : List Tick),
    s.Inv → s.link = .operational → s.txState = .awaitingReadReply → s.rxState = .waitingHeader → s.rbTail = s.rbHead →
    data.length = dataCount len → 1 ≤ data.length → data.length + 4 < s.cfgN → nows.length = data.length + 4 →
    (∀ now ∈ nows, ¬ s.cfgTxTimeout ≤ now - s.txSendTick) →
    (∀ now ∈ nows.drop 2, ∀ start, nows[1]? = some start → ¬ s.cfgRxTimeout < now - start) →
    ∃ u w, exec (.readReply len data) s = .next u ∧ u.ticks nows = .next w ∧ w.txState = .idle ∧
      w.rxState = .waitingHeader ∧ w.rbTail = w.rbHead ∧
      (data.length < 3 → w.outs = [.frameDone 0x83#8 (len - 1#8)]) ∧
      (∀ d0 d1 d2 payload, data = d0 :: d1 :: d2 :: payload →
        w.outs = .frameDone 0x83#8 (len - 1#8) ::
          match cbLookup (d0 ++ d1) 0 s.cbs with
          | some (i, c) =>
            [.cbFire i c.tag (d0 ++ d1) d2 (min payload.length (s.params.rxCap - 7)) (payload.take (s.params.rxCap - 7))]
          | none => [])

/-! ### Initialisation, tick and recovery (R190 to R201) -/

/-- R190: `INIT`, whole: its refusals in the order tested, none changing state; a refused `XP_RX_START` leaves the block as it was; an accepted
one configures it, resets the ring, the parser and the transaction, and makes it operational. -/
def Obligations.InitConfiguresOrRefuses : Prop :=
  ∀ (s : State) (n : Nat) (tx rx : Tick),
    (s.link ≠ .uninit → exec (.init n tx rx) s = .next { s with answer := some ⟨.busy, none⟩, outs := [] }) ∧
    (s.link = .uninit → n < 2 →
      exec (.init n tx rx) s = .next { s with answer := some ⟨.invalidArg, none⟩, outs := [] }) ∧
    (s.link = .uninit → 2 ≤ n → s.params.rbMax < n →
      exec (.init n tx rx) s = .next { s with answer := some ⟨.allocFail, none⟩, outs := [] }) ∧
    (s.link = .uninit → 2 ≤ n → n ≤ s.params.rbMax → s.nextAnswer = false →
      exec (.init n tx rx) s = .next { s.popAnswer with answer := some ⟨.xportErr, none⟩, outs := [.xpRxStart n] }) ∧
    (s.link = .uninit → 2 ≤ n → n ≤ s.params.rbMax → s.nextAnswer = true →
      exec (.init n tx rx) s = .next { s.popAnswer with
        cfgN := n, cfgTxTimeout := tx, cfgRxTimeout := rx, link := .operational
        rbHead := -1, rbTail := -1, rbOvf := false, rxState := .waitingHeader, rxHdr1 := false, txState := .idle
        answer := some ⟨.ok, none⟩, outs := [.xpRxStart n] })

/-- R193, R222, R224: `XPORT_ERR` changes exactly one element, `link`, and only from `Operational`. -/
def Obligations.XportErrChangesOnlyLink : Prop :=
  ∀ s : State,
    (s.link = .operational → exec .xportErr s = .next { s with link := .transportError, answer := none, outs := [] }) ∧
    (s.link ≠ .operational → exec .xportErr s = .next { s with answer := none, outs := [] })

/-- R195, R223, R196: a `TICK` with a transport error pending. The three resets happen in every case; `XP_RX_START` is emitted only after
an accepted `XP_ABORT`; on either refusal the error stays and the tick ends with `XPORT_ERR`; when both are accepted the block is
operational again and steps 2 to 5 change nothing. -/
def Obligations.TickRecoversFromTransportError : Prop :=
  ∀ (s : State) (now : Tick), s.link = .transportError →
    (s.nextAnswer = false → exec (.tick now) s = .next { s.popAnswer with
      rxState := .waitingHeader, rxHdr1 := false, txState := .idle, rbHead := -1, rbTail := -1, rbOvf := false
      answer := some ⟨.xportErr, none⟩, outs := [.xpAbort] }) ∧
    (s.nextAnswer = true → s.popAnswer.nextAnswer = false → exec (.tick now) s = .next { s.popAnswer.popAnswer with
      rxState := .waitingHeader, rxHdr1 := false, txState := .idle, rbHead := -1, rbTail := -1, rbOvf := false
      answer := some ⟨.xportErr, none⟩, outs := [.xpAbort, .xpRxStart s.cfgN] }) ∧
    (s.nextAnswer = true → s.popAnswer.nextAnswer = true → exec (.tick now) s = .next { s.popAnswer.popAnswer with
      rxState := .waitingHeader, rxHdr1 := false, txState := .idle, rbHead := -1, rbTail := -1, rbOvf := false
      link := .operational, answer := some ⟨.ok, none⟩, outs := [.xpAbort, .xpRxStart s.cfgN] })

/-- R196, R200: a `TICK` of an operational block runs to its end and answers `OK` unless the byte it pops has no value; its frame: it writes no
configuration, no link state, no ring memory, head or overflow flag, no callback slot, no TX buffer, no send tick, and takes nothing from
the ports. -/
def Obligations.TickRunsToItsEnd : Prop :=
  ∀ (s : State) (now : Tick), s.link = .operational → s.PopReady →
    ∃ t, exec (.tick now) s = .next t ∧ t.answer = some ⟨.ok, none⟩ ∧
      t = { s with
        rbTail := t.rbTail, rxState := t.rxState, rxHdr1 := t.rxHdr1, rxFb := t.rxFb, rxExpected := t.rxExpected
        rxReceived := t.rxReceived, rxStartTick := t.rxStartTick, txState := t.txState
        answer := t.answer, outs := t.outs }

/-- U1, R49 (safe stop, assumption 9): a `TICK` faults exactly when the block is operational, step 2 wants a byte, the ring is not empty and
nothing was ever written at the next index; no other instruction faults and none refuses. (A step stops also on an offer that is no
instruction, assumption 14.) -/
def Obligations.OnlyAnUnwrittenRingByteStopsAnInstruction : Prop :=
  ∀ (s : State) (i : Instr),
    (∀ r, exec i s ≠ .refused r) ∧
    ∀ idx, exec i s = .fault (.unwrittenRingByte idx) ↔
      (∃ now, i = .tick now) ∧ s.link = .operational ∧ s.wantsByte = true ∧ s.rbTail ≠ s.rbHead ∧
        idx = s.nextTail.toNat ∧ s.rbMem.read idx = none

/-! ### Results, link state and write rights (R44, R210 to R226) -/

/-- R226: what each link state permits, refuses and ignores. -/
def Obligations.LinkStateGovernsOperations : Prop :=
  ∀ (s t : State) (i : Instr), exec i s = .next t →
    (s.link = .uninit →
      (∀ now, i = .tick now → t.answer = some ⟨.notReady, none⟩ ∧ t.block = s.block) ∧
      (∀ a vs now, i = .writeVp a vs now → t.answer = some ⟨.notReady, none⟩ ∧ t.block = s.block) ∧
      (∀ a c now, i = .readVp a c now → t.answer = some ⟨.notReady, none⟩ ∧ t.block = s.block) ∧
      (∀ a g, i = .registerCb a g → t.answer = some ⟨.notReady, none⟩ ∧ t.block = s.block) ∧
      (∀ n b, i = .rbWrite n b → t.block = s.block) ∧ (∀ n, i = .rxProgress n → t.block = s.block) ∧
      (i = .xportErr → t.block = s.block) ∧ (i = .txDone → s.Inv → t.block = s.block)) ∧
    (s.link ≠ .uninit →
      (∀ n tx rx, i = .init n tx rx → t.answer = some ⟨.busy, none⟩ ∧ t.block = s.block) ∧
      (∀ now, i = .tick now → t.answer ≠ some ⟨.notReady, none⟩)) ∧
    (s.link = .transportError →
      (∀ a vs now, i = .writeVp a vs now → t.answer = some ⟨.notReady, none⟩ ∧ t.block = s.block) ∧
      (∀ a c now, i = .readVp a c now → t.answer = some ⟨.notReady, none⟩ ∧ t.block = s.block) ∧
      (∀ a g, i = .registerCb a g → t.answer = some ⟨.notReady, none⟩ ∧ t.block = s.block) ∧
      (i = .xportErr → t.block = s.block)) ∧
    (s.link = .operational → i.port = .host → t.answer ≠ some ⟨.notReady, none⟩) ∧
    (i = .isIdle → ∃ b, t.answer = some ⟨.ok, some b⟩ ∧ t.block = s.block)

/-- R211: an error result other than `XPORT_ERR` has changed no state and emitted nothing; after `XPORT_ERR` nothing has changed and been
emitted but what R211 lists. What a refused request builds and offers, the statements about the requests say. `WRITE_REQ` and `READ_REQ` count
as requests by the model's choice (assumption 5). -/
def Obligations.ErrorResultsArePrecise : Prop :=
  ∀ (s t : State) (i : Instr) (code : Result) (bit : Option Bool),
    exec i s = .next t → t.answer = some ⟨code, bit⟩ → code ≠ .ok →
    (code ≠ .xportErr → t.block = s.block ∧ t.outs = []) ∧
    (code = .xportErr →
      match i with
      | .init n _ _ => t.block = s.block ∧ t.outs = [.xpRxStart n]
      | .tick _ => t.block = s.wipe.block ∧ (t.outs = [.xpAbort] ∨ t.outs = [.xpAbort, .xpRxStart s.cfgN])
      | .writeVp _ _ _ | .readVp _ _ _ | .writeReq _ _ _ | .readReq _ _ =>
        t.block = State.block { s with txFb := t.txFb, txLen := t.txLen } ∧ ∃ bytes, t.outs = [.xpTxStart bytes]
      | _ => False)

/-- R44, R8: the transport agent's events answer nothing, emit nothing and write nothing but `rb_mem`, `rb_head`, `rb_ovf`, two moves of
`tx_state` and one of `link`; the host agent's commands never write `rb_mem`, and only `INIT` and `TICK` write the ring indices, the
overflow flag, the parser or `link`. -/
def Obligations.EachAgentWritesOnlyItsOwn : Prop :=
  ∀ (s t : State) (i : Instr), exec i s = .next t →
    (i.port = .xport →
      t = { s with
        rbMem := t.rbMem, rbHead := t.rbHead, rbOvf := t.rbOvf, txState := t.txState, link := t.link
        answer := none, outs := [] } ∧
      (t.txState = s.txState ∨ (s.txState = .sendingWrite ∧ t.txState = .writeSendComplete) ∨
        (s.txState = .sendingRead ∧ t.txState = .readSendComplete)) ∧
      (t.link = s.link ∨ (s.link = .operational ∧ t.link = .transportError))) ∧
    (i.port = .host → t.rbMem = s.rbMem ∧
      ((∀ n tx rx, i ≠ .init n tx rx) → (∀ now, i ≠ .tick now) →
        t.block = State.block { s with
          txState := t.txState, txSendTick := t.txSendTick, txFb := t.txFb, txLen := t.txLen, cbs := t.cbs }))

/-- R21, R22, R39, R191: without reset, only a step that runs an `INIT` in `Uninit` changes the configuration or leaves `Uninit`; the block never
goes back to `Uninit`; callback entries are never removed and at most one is added. The parameters never change. -/
def Obligations.ConfigurationAndTableOnlyGrow : Prop :=
  ∀ s t : State, step s = .next t →
    t.params = s.params ∧
    (s.rst = false →
      (∃ added, t.cbs = s.cbs ++ added ∧ added.length ≤ 1) ∧
      (s.link ≠ .uninit → t.link ≠ .uninit) ∧
      (s.link ≠ .uninit ∨
          (∀ p n tx rx, s.granted = some p → decodeOffer p (s.offered p) ≠ .instr (.init n tx rx)) →
        t.cfgN = s.cfgN ∧ t.cfgTxTimeout = s.cfgTxTimeout ∧ t.cfgRxTimeout = s.cfgRxTimeout ∧
          (s.link = .uninit → t.link = .uninit)))

/-! ### Invariants and whole-machine statements -/

/-- The invariants hold after reset, with the test configuration of R12 (assumption 4, model's choice). -/
def Obligations.InvariantHoldsAtReset : Prop := State.reset.Inv ∧ State.reset.Published ∧ State.reset.RxWritten

/-- R20, R27, R28, R29, R32, R35, R37, R39, R48: every step keeps the legal values and the invariants of `10_state.md`, from every state that
has them, whatever is offered and however the transport answers. -/
def Obligations.EveryStepKeepsTheInvariant : Prop :=
  ∀ s t : State, s.Inv → step s = .next t → t.Inv

/-- R12, R20, R70: after every step from a state that has the invariants, every register whose width depends on a parameter, and `tx_len`, fits
its width: once initialised `cfg_n` in `IDX_W` bits and the indices in `IDX_W` bits signed, with `N <= 2^(IDX_W-1)`; `tx_len` in 9 bits,
`cb_n` in `ceil(log2(CB_CAP+1))` bits and every tag in `CB_TAG_W` bits. -/
def Obligations.RegistersFitTheirWidths : Prop :=
  ∀ s t : State, s.Inv → step s = .next t →
    (t.link ≠ .uninit →
      t.cfgN < 2 ^ t.params.idxW ∧ t.cfgN ≤ 2 ^ (t.params.idxW - 1) ∧
      -(2 : Int) ^ (t.params.idxW - 1) ≤ t.rbHead ∧ t.rbHead < (2 : Int) ^ (t.params.idxW - 1) ∧
      -(2 : Int) ^ (t.params.idxW - 1) ≤ t.rbTail ∧ t.rbTail < (2 : Int) ^ (t.params.idxW - 1)) ∧
    t.txLen < 2 ^ 9 ∧ t.cbN < 2 ^ t.params.cbNW ∧ ∀ c ∈ t.cbs, c.tag < 2 ^ t.params.cbTagW

/-- R49, R67: from a state that has the invariants and whose unread bytes have been written, a step that takes no undutiful progress report
never faults, and leaves a state whose unread bytes have been written. -/
def Obligations.DutifulTransportNeverFaults : Prop :=
  ∀ s : State, s.Inv → s.Published →
    (∀ p i, s.granted = some p → decodeOffer p (s.offered p) = .instr i → (s.consume p).Dutiful i) →
    (∀ f, step s ≠ .fault f) ∧ ∀ t, step s = .next t → t.Published

/-- R49: the slots of `rx_fb` that a rule may read have been written in the current frame, in every step from every state where they have. -/
def Obligations.ReadableSlotsHaveBeenWritten : Prop :=
  ∀ s t : State, s.Inv → s.RxWritten → step s = .next t → t.RxWritten

/-- R49: no rule reads an element that R48 leaves unspecified before a rule has written it. Two states that differ only in what is
meaningless answer the same, emit the same, stop or go on alike, and again differ only in what is meaningless. -/
def Obligations.UnspecifiedElementsAreNeverRead : Prop :=
  ∀ (s s' : State) (i : Instr), s.Inv → s.SameMeaning s' →
    (∀ t, exec i s = .next t → ∃ t', exec i s' = .next t' ∧ t.SameMeaning t') ∧
    ∀ f, exec i s = .fault f → exec i s' = .fault f
end

