-- ==== Sys2Proof/Laws/Decode.lean ====
section
/-! SUPPORT. The operand readers take back what the encoder's byte-order helpers write, and what they read is what the helpers would
have written (R64, R96). -/

namespace Sys2Proof

theorem toNat_append8 {w : Nat} (x : BitVec w) (y : Byte) : (x ++ y).toNat = x.toNat * 256 + y.toNat := by
  rw [BitVec.toNat_append, ← Nat.shiftLeft_add_eq_or_of_lt y.isLt, Nat.shiftLeft_eq]

theorem toNat_joinBytes (h l : Byte) : (joinBytes h l).toNat = h.toNat * 256 + l.toNat := toNat_append8 h l

theorem toNat_hiByte (v : BitVec 16) : (hiByte v).toNat = v.toNat / 256 := by
  have := v.isLt
  simp only [hiByte, BitVec.extractLsb'_toNat, Nat.shiftRight_eq_div_pow]; omega

theorem toNat_loByte (v : BitVec 16) : (loByte v).toNat = v.toNat % 256 := by
  simp only [loByte, BitVec.extractLsb'_toNat, Nat.shiftRight_eq_div_pow]; omega

@[simp] theorem joinBytes_be16 (v : BitVec 16) : joinBytes (hiByte v) (loByte v) = v := by
  apply BitVec.eq_of_toNat_eq
  rw [toNat_joinBytes, toNat_hiByte, toNat_loByte]; omega

@[simp] theorem hiByte_joinBytes (h l : Byte) : hiByte (joinBytes h l) = h := by
  apply BitVec.eq_of_toNat_eq
  have := l.isLt
  rw [toNat_hiByte, toNat_joinBytes]; omega

@[simp] theorem loByte_joinBytes (h l : Byte) : loByte (joinBytes h l) = l := by
  apply BitVec.eq_of_toNat_eq
  have := l.isLt
  rw [toNat_loByte, toNat_joinBytes]; omega

theorem toNat_joinTick (a b c d : Byte) :
    (joinTick a b c d).toNat = ((a.toNat * 256 + b.toNat) * 256 + c.toNat) * 256 + d.toNat := by
  unfold joinTick
  rw [toNat_append8, toNat_append8, toNat_append8]

@[simp] theorem joinTick_be32 (t : Tick) :
    joinTick (t.extractLsb' 24 8) (t.extractLsb' 16 8) (t.extractLsb' 8 8) (t.extractLsb' 0 8) = t := by
  apply BitVec.eq_of_toNat_eq
  have := t.isLt
  rw [toNat_joinTick]
  simp only [BitVec.extractLsb'_toNat, Nat.shiftRight_eq_div_pow]
  omega

@[simp] theorem be32_joinTick (a b c d : Byte) : be32 (joinTick a b c d) = [a, b, c, d] := by
  have := a.isLt; have := b.isLt; have := c.isLt; have := d.isLt
  simp only [be32, List.cons.injEq, and_true]
  refine ⟨?_, ?_, ?_, ?_⟩ <;> apply BitVec.eq_of_toNat_eq <;>
    rw [BitVec.extractLsb'_toNat, toNat_joinTick] <;> simp only [Nat.shiftRight_eq_div_pow] <;> omega

@[simp] theorem be16_joinBytes (h l : Byte) : be16 (joinBytes h l) = [h, l] := by simp [be16]

/-! ### The readers on encoded operands -/

@[simp] theorem withByte_cons (b : Byte) (r : List Byte) (k : Byte → List Byte → Decoded) : withByte (b :: r) k = k b r := rfl

@[simp] theorem withWord_be16 (v : BitVec 16) (r : List Byte) (k : BitVec 16 → List Byte → Decoded) :
    withWord (be16 v ++ r) k = k v r := by simp [be16, withWord]

@[simp] theorem withTick_be32 (t : Tick) (r : List Byte) (k : Tick → List Byte → Decoded) :
    withTick (be32 t ++ r) k = k t r := by simp [be32, withTick]

@[simp] theorem withValues_flatMap (vs : List Value) (r : List Byte) (k : List Value → List Byte → Decoded) :
    withValues vs.length (vs.flatMap be16 ++ r) k = k vs r := by
  induction vs generalizing k with
  | nil => rfl
  | cons v vs ih => simp [withValues, ih]

/-! ### What a reader that succeeds has read -/

theorem withByte_instr {bs : List Byte} {k : Byte → List Byte → Decoded} {i : Instr} (h : withByte bs k = .instr i) :
    ∃ b r, bs = b :: r ∧ k b r = .instr i := by
  unfold withByte at h
  split at h
  · exact ⟨_, _, rfl, h⟩
  · cases h

theorem withWord_instr {bs : List Byte} {k : BitVec 16 → List Byte → Decoded} {i : Instr} (h : withWord bs k = .instr i) :
    ∃ v r, bs = be16 v ++ r ∧ k v r = .instr i := by
  unfold withWord at h
  split at h
  · exact ⟨_, _, by simp, h⟩
  · cases h

theorem withTick_instr {bs : List Byte} {k : Tick → List Byte → Decoded} {i : Instr} (h : withTick bs k = .instr i) :
    ∃ t r, bs = be32 t ++ r ∧ k t r = .instr i := by
  unfold withTick at h
  split at h
  · exact ⟨_, _, by simp, h⟩
  · cases h

theorem withValues_instr {n : Nat} {bs : List Byte} {k : List Value → List Byte → Decoded} {i : Instr}
    (h : withValues n bs k = .instr i) : ∃ vs r, vs.length = n ∧ bs = vs.flatMap be16 ++ r ∧ k vs r = .instr i := by
  induction n generalizing bs k with
  | zero => exact ⟨[], bs, rfl, rfl, h⟩
  | succ n ih =>
    obtain ⟨v, r, hb, h⟩ := withWord_instr h
    obtain ⟨vs, r', hl, hr, h⟩ := ih h
    exact ⟨v :: vs, r', by simp [hl], by simp [hb, hr], h⟩

@[simp] theorem decodeOffer_serial (p : Port) (bs : List Byte) : decodeOffer p (.serial bs) = decode p bs := rfl

/-- An operation offered in parallel on its own port is taken as it stands, whatever the widths of its operands. -/
@[simp] theorem decodeOffer_parallel_own (i : Instr) : decodeOffer i.port (.parallel i) = .instr i := if_pos rfl

/-- An operation code offered in parallel on the other port is as a reserved one (R94). -/
theorem decodeOffer_reserved {p : Port} {i : Instr} (hp : i.port ≠ p) (hf : i.isFrame = false) :
    decodeOffer p (.parallel i) = .reserved := by
  simp [decodeOffer, hp, hf]

/-- Two bytes for each value (R64). -/
theorem length_flatMap_be16 (vs : List Value) : (vs.flatMap be16).length = 2 * vs.length := by
  induction vs with
  | nil => rfl
  | cons v vs ih => simp [be16, ih]; omega

end Sys2Proof
end

