-- ==== Sys2Proof/Laws/Memory.lean ====
section
/-! SUPPORT. The laws of the byte memories: read after write, every other index left alone, the canonical form and the bound kept. -/

namespace Sys2Proof.Machine

@[simp] theorem Memory.read_nil (i : Nat) : Memory.read [] i = none := rfl

@[simp] theorem Memory.read_write_same (m : Memory) (i : Nat) (v : Byte) : (Memory.write m i v).read i = some v := by
  induction m with
  | nil => simp [Memory.write, Memory.read]
  | cons c m ih =>
    obtain ⟨a, b⟩ := c
    unfold Memory.write
    split
    · simp [Memory.read]
    · split
      · simp [Memory.read]
      · next h => simp [Memory.read, h, ih]

theorem Memory.read_write_other (m : Memory) {i j : Nat} (v : Byte) (h : j ≠ i) :
    (Memory.write m i v).read j = Memory.read m j := by
  induction m with
  | nil => simp [Memory.write, Memory.read, h]
  | cons c m ih =>
    obtain ⟨a, b⟩ := c
    unfold Memory.write
    split
    · simp [Memory.read, h]
    · split
      · next h2 => subst h2; simp [Memory.read, h]
      · simp only [Memory.read, ih]

theorem Memory.read_write (m : Memory) (i j : Nat) (v : Byte) :
    (Memory.write m i v).read j = if j = i then some v else Memory.read m j := by
  split
  · next h => subst h; simp
  · next h => exact Memory.read_write_other m v h

/-- A written index stays written. -/
theorem Memory.isSome_write {m : Memory} {j : Nat} (i : Nat) (v : Byte) (h : (Memory.read m j).isSome = true) :
    ((Memory.write m i v).read j).isSome = true := by
  rw [Memory.read_write]; split <;> simp_all

theorem Memory.read_writeAll (m : Memory) (i : Nat) (bs : List Byte) (j : Nat) :
    (Memory.writeAll m i bs).read j = if i ≤ j ∧ j < i + bs.length then bs[j - i]? else Memory.read m j := by
  induction bs generalizing m i with
  | nil => simp [Memory.writeAll]
  | cons b bs ih =>
    rw [Memory.writeAll, ih]
    by_cases h : i = j
    · subst h; simp
    · by_cases h2 : i + 1 ≤ j ∧ j < i + 1 + bs.length
      · have h3 : i ≤ j ∧ j < i + (b :: bs).length := by simp only [List.length_cons]; omega
        have h4 : j - i = (j - (i + 1)) + 1 := by omega
        rw [if_pos h2, if_pos h3, h4, List.getElem?_cons_succ]
      · have h3 : ¬ (i ≤ j ∧ j < i + (b :: bs).length) := by simp only [List.length_cons]; omega
        rw [if_neg h2, if_neg h3, Memory.read_write_other _ _ (Ne.symm h)]

/-- The first index of a memory, for the canonical form. -/
theorem Memory.wf_cons {a : Nat} {b : Byte} {m : Memory} :
    Memory.wf ((a, b) :: m) = true ↔ Memory.wf m = true ∧ ∀ c ∈ m.head?, a < c.1 := by
  cases m with
  | nil => simp [Memory.wf]
  | cons c m => obtain ⟨x, y⟩ := c; simp [Memory.wf]; tauto

theorem Memory.head?_write (m : Memory) (i : Nat) (v : Byte) :
    ∀ c ∈ (Memory.write m i v).head?, c.1 = i ∨ ∃ d ∈ m.head?, c.1 = d.1 := by
  cases m with
  | nil => simp [Memory.write]
  | cons c m =>
    obtain ⟨a, b⟩ := c
    unfold Memory.write
    split
    · simp
    · split <;> simp

/-- A write keeps the canonical form. -/
theorem Memory.wf_write {m : Memory} (i : Nat) (v : Byte) (h : Memory.wf m = true) : Memory.wf (Memory.write m i v) = true := by
  induction m with
  | nil => rfl
  | cons c m ih =>
    obtain ⟨a, b⟩ := c
    have ⟨hm, hh⟩ := Memory.wf_cons.1 h
    unfold Memory.write
    split
    · next h1 => exact Memory.wf_cons.2 ⟨h, by simpa using h1⟩
    · split
      · next h2 => subst h2; exact Memory.wf_cons.2 ⟨hm, hh⟩
      · next h1 h2 =>
        refine Memory.wf_cons.2 ⟨ih hm, fun c hc => ?_⟩
        rcases Memory.head?_write m i v c hc with h3 | ⟨d, hd, h3⟩
        · omega
        · have := hh d hd; omega

theorem Memory.wf_writeAll {m : Memory} (i : Nat) (bs : List Byte) (h : Memory.wf m = true) :
    Memory.wf (Memory.writeAll m i bs) = true := by
  induction bs generalizing m i with
  | nil => exact h
  | cons b bs ih => exact ih (i + 1) (Memory.wf_write i b h)

/-- A write inside a bound keeps the bound. -/
theorem Memory.below_write {m : Memory} {n i : Nat} (v : Byte) (hi : i < n) (h : Memory.below n m = true) :
    Memory.below n (Memory.write m i v) = true := by
  induction m with
  | nil => simp [Memory.write, Memory.below, hi]
  | cons c m ih =>
    obtain ⟨a, b⟩ := c
    simp only [Memory.below, Bool.and_eq_true, decide_eq_true_eq] at h
    unfold Memory.write
    split
    · simp [Memory.below, hi, h.1, h.2]
    · split <;> simp [Memory.below, hi, h.1, h.2, ih h.2]

theorem Memory.below_writeAll {m : Memory} {n : Nat} (i : Nat) (bs : List Byte) (hi : i + bs.length ≤ n)
    (h : Memory.below n m = true) : Memory.below n (Memory.writeAll m i bs) = true := by
  induction bs generalizing m i with
  | nil => exact h
  | cons b bs ih =>
    simp only [List.length_cons] at hi
    exact ih (i + 1) (by omega) (Memory.below_write b (by omega) h)

/-! ### Every operation that writes a memory keeps it canonical and inside its bound; reset has it -/

theorem State.wf_storeByte {s : State} (idx : Nat) (b : Byte) (h : s.rbMem.wf = true) : (s.storeByte idx b).rbMem.wf = true := by
  unfold State.storeByte
  split
  · exact h
  · exact Memory.wf_write idx b h

theorem State.below_storeByte {s : State} (idx : Nat) (b : Byte) (h : Memory.below s.cfgN s.rbMem = true) :
    Memory.below s.cfgN (s.storeByte idx b).rbMem = true := by
  unfold State.storeByte
  split
  · exact h
  · next hn => exact Memory.below_write b (by omega) h

theorem State.wf_putRx {s : State} (i : Nat) (b : Byte) (h : s.rxFb.wf = true) : (s.putRx i b).rxFb.wf = true :=
  Memory.wf_write i b h

theorem State.wf_buildTx {s : State} (frame : List Byte) (h : s.txFb.wf = true) : (s.buildTx frame).txFb.wf = true :=
  Memory.wf_writeAll 0 frame h

theorem State.below_buildTx {s : State} {n : Nat} (frame : List Byte) (hn : frame.length ≤ n)
    (h : Memory.below n s.txFb = true) : Memory.below n (s.buildTx frame).txFb = true :=
  Memory.below_writeAll 0 frame (by omega) h

theorem State.wf_reset :
    State.reset.rbMem.wf = true ∧ State.reset.rxFb.wf = true ∧ State.reset.txFb.wf = true := ⟨rfl, rfl, rfl⟩

/-- What has been built into `tx_fb` is what is read back from it (R79, R150). -/
@[simp] theorem State.txSlice_buildTx (s : State) (frame : List Byte) :
    (s.buildTx frame).txSlice 0 frame.length = frame := by
  apply List.ext_getElem?
  intro k
  by_cases h : k < frame.length
  · simp [State.txSlice, State.txByte, State.buildTx, Memory.read_writeAll, h]
  · simp [State.txSlice, h]

/-- One slot of `rx_fb` after a slot has been written. -/
theorem State.rxByte_putRx (s : State) (i j : Nat) (b : Byte) :
    (s.putRx i b).rxByte j = if j = i then b else s.rxByte j := by
  unfold State.rxByte State.putRx
  rw [Memory.read_write]
  split <;> simp_all

end Sys2Proof.Machine
end

