-- ==== Sys2Proof/Laws/State.lean ====
section
/-! SUPPORT. One lemma per field per update of State, true by rfl, so that no later proof unfolds a record update. -/

namespace Sys2Proof

/-! ### The derived widths (R12, R20) -/

/-- `RB_MAX <= 2^(IDX_W-1)` (R70). -/
theorem Params.rbMax_le_idxW (p : Params) : p.rbMax ≤ 2 ^ (p.idxW - 1) := Nat.le_pow_clog (by decide) _

/-- `CB_CAP` fits `cb_n`. -/
theorem Params.cbCap_lt_cbNW (p : Params) : p.cbCap < 2 ^ p.cbNW := Nat.le_pow_clog (by decide) _

end Sys2Proof

namespace Sys2Proof.Machine

/-! ### `State.takeOp` -/

@[simp] theorem State.takeOp_params (s : State) : s.takeOp.params = s.params := rfl
@[simp] theorem State.takeOp_cfgN (s : State) : s.takeOp.cfgN = s.cfgN := rfl
@[simp] theorem State.takeOp_cfgTxTimeout (s : State) : s.takeOp.cfgTxTimeout = s.cfgTxTimeout := rfl
@[simp] theorem State.takeOp_cfgRxTimeout (s : State) : s.takeOp.cfgRxTimeout = s.cfgRxTimeout := rfl
@[simp] theorem State.takeOp_link (s : State) : s.takeOp.link = s.link := rfl
@[simp] theorem State.takeOp_rbMem (s : State) : s.takeOp.rbMem = s.rbMem := rfl
@[simp] theorem State.takeOp_rbHead (s : State) : s.takeOp.rbHead = s.rbHead := rfl
@[simp] theorem State.takeOp_rbTail (s : State) : s.takeOp.rbTail = s.rbTail := rfl
@[simp] theorem State.takeOp_rbOvf (s : State) : s.takeOp.rbOvf = s.rbOvf := rfl
@[simp] theorem State.takeOp_rxState (s : State) : s.takeOp.rxState = s.rxState := rfl
@[simp] theorem State.takeOp_rxHdr1 (s : State) : s.takeOp.rxHdr1 = s.rxHdr1 := rfl
@[simp] theorem State.takeOp_rxFb (s : State) : s.takeOp.rxFb = s.rxFb := rfl
@[simp] theorem State.takeOp_rxExpected (s : State) : s.takeOp.rxExpected = s.rxExpected := rfl
@[simp] theorem State.takeOp_rxReceived (s : State) : s.takeOp.rxReceived = s.rxReceived := rfl
@[simp] theorem State.takeOp_rxStartTick (s : State) : s.takeOp.rxStartTick = s.rxStartTick := rfl
@[simp] theorem State.takeOp_txState (s : State) : s.takeOp.txState = s.txState := rfl
@[simp] theorem State.takeOp_txSendTick (s : State) : s.takeOp.txSendTick = s.txSendTick := rfl
@[simp] theorem State.takeOp_txFb (s : State) : s.takeOp.txFb = s.txFb := rfl
@[simp] theorem State.takeOp_txLen (s : State) : s.takeOp.txLen = s.txLen := rfl
@[simp] theorem State.takeOp_cbs (s : State) : s.takeOp.cbs = s.cbs := rfl
@[simp] theorem State.takeOp_rst (s : State) : s.takeOp.rst = s.rst := rfl
@[simp] theorem State.takeOp_hostPort (s : State) : s.takeOp.hostPort = s.hostPort := rfl
@[simp] theorem State.takeOp_xportPort (s : State) : s.takeOp.xportPort = s.xportPort := rfl
@[simp] theorem State.takeOp_grants (s : State) : s.takeOp.grants = s.grants := rfl
@[simp] theorem State.takeOp_xpAnswers (s : State) : s.takeOp.xpAnswers = s.xpAnswers := rfl
@[simp] theorem State.takeOp_draws (s : State) : s.takeOp.draws = s.draws := rfl
@[simp] theorem State.takeOp_answer (s : State) : s.takeOp.answer = none := rfl
@[simp] theorem State.takeOp_outs (s : State) : s.takeOp.outs = [] := rfl

/-! ### `State.reply` -/

@[simp] theorem State.reply_params (s : State) (c : Result) : (s.reply c).params = s.params := rfl
@[simp] theorem State.reply_cfgN (s : State) (c : Result) : (s.reply c).cfgN = s.cfgN := rfl
@[simp] theorem State.reply_cfgTxTimeout (s : State) (c : Result) : (s.reply c).cfgTxTimeout = s.cfgTxTimeout := rfl
@[simp] theorem State.reply_cfgRxTimeout (s : State) (c : Result) : (s.reply c).cfgRxTimeout = s.cfgRxTimeout := rfl
@[simp] theorem State.reply_link (s : State) (c : Result) : (s.reply c).link = s.link := rfl
@[simp] theorem State.reply_rbMem (s : State) (c : Result) : (s.reply c).rbMem = s.rbMem := rfl
@[simp] theorem State.reply_rbHead (s : State) (c : Result) : (s.reply c).rbHead = s.rbHead := rfl
@[simp] theorem State.reply_rbTail (s : State) (c : Result) : (s.reply c).rbTail = s.rbTail := rfl
@[simp] theorem State.reply_rbOvf (s : State) (c : Result) : (s.reply c).rbOvf = s.rbOvf := rfl
@[simp] theorem State.reply_rxState (s : State) (c : Result) : (s.reply c).rxState = s.rxState := rfl
@[simp] theorem State.reply_rxHdr1 (s : State) (c : Result) : (s.reply c).rxHdr1 = s.rxHdr1 := rfl
@[simp] theorem State.reply_rxFb (s : State) (c : Result) : (s.reply c).rxFb = s.rxFb := rfl
@[simp] theorem State.reply_rxExpected (s : State) (c : Result) : (s.reply c).rxExpected = s.rxExpected := rfl
@[simp] theorem State.reply_rxReceived (s : State) (c : Result) : (s.reply c).rxReceived = s.rxReceived := rfl
@[simp] theorem State.reply_rxStartTick (s : State) (c : Result) : (s.reply c).rxStartTick = s.rxStartTick := rfl
@[simp] theorem State.reply_txState (s : State) (c : Result) : (s.reply c).txState = s.txState := rfl
@[simp] theorem State.reply_txSendTick (s : State) (c : Result) : (s.reply c).txSendTick = s.txSendTick := rfl
@[simp] theorem State.reply_txFb (s : State) (c : Result) : (s.reply c).txFb = s.txFb := rfl
@[simp] theorem State.reply_txLen (s : State) (c : Result) : (s.reply c).txLen = s.txLen := rfl
@[simp] theorem State.reply_cbs (s : State) (c : Result) : (s.reply c).cbs = s.cbs := rfl
@[simp] theorem State.reply_rst (s : State) (c : Result) : (s.reply c).rst = s.rst := rfl
@[simp] theorem State.reply_hostPort (s : State) (c : Result) : (s.reply c).hostPort = s.hostPort := rfl
@[simp] theorem State.reply_xportPort (s : State) (c : Result) : (s.reply c).xportPort = s.xportPort := rfl
@[simp] theorem State.reply_grants (s : State) (c : Result) : (s.reply c).grants = s.grants := rfl
@[simp] theorem State.reply_xpAnswers (s : State) (c : Result) : (s.reply c).xpAnswers = s.xpAnswers := rfl
@[simp] theorem State.reply_draws (s : State) (c : Result) : (s.reply c).draws = s.draws := rfl
@[simp] theorem State.reply_answer (s : State) (c : Result) : (s.reply c).answer = some ⟨c, none⟩ := rfl
@[simp] theorem State.reply_outs (s : State) (c : Result) : (s.reply c).outs = s.outs := rfl

/-! ### `State.replyBit` -/

@[simp] theorem State.replyBit_params (s : State) (b : Bool) : (s.replyBit b).params = s.params := rfl
@[simp] theorem State.replyBit_cfgN (s : State) (b : Bool) : (s.replyBit b).cfgN = s.cfgN := rfl
@[simp] theorem State.replyBit_cfgTxTimeout (s : State) (b : Bool) : (s.replyBit b).cfgTxTimeout = s.cfgTxTimeout := rfl
@[simp] theorem State.replyBit_cfgRxTimeout (s : State) (b : Bool) : (s.replyBit b).cfgRxTimeout = s.cfgRxTimeout := rfl
@[simp] theorem State.replyBit_link (s : State) (b : Bool) : (s.replyBit b).link = s.link := rfl
@[simp] theorem State.replyBit_rbMem (s : State) (b : Bool) : (s.replyBit b).rbMem = s.rbMem := rfl
@[simp] theorem State.replyBit_rbHead (s : State) (b : Bool) : (s.replyBit b).rbHead = s.rbHead := rfl
@[simp] theorem State.replyBit_rbTail (s : State) (b : Bool) : (s.replyBit b).rbTail = s.rbTail := rfl
@[simp] theorem State.replyBit_rbOvf (s : State) (b : Bool) : (s.replyBit b).rbOvf = s.rbOvf := rfl
@[simp] theorem State.replyBit_rxState (s : State) (b : Bool) : (s.replyBit b).rxState = s.rxState := rfl
@[simp] theorem State.replyBit_rxHdr1 (s : State) (b : Bool) : (s.replyBit b).rxHdr1 = s.rxHdr1 := rfl
@[simp] theorem State.replyBit_rxFb (s : State) (b : Bool) : (s.replyBit b).rxFb = s.rxFb := rfl
@[simp] theorem State.replyBit_rxExpected (s : State) (b : Bool) : (s.replyBit b).rxExpected = s.rxExpected := rfl
@[simp] theorem State.replyBit_rxReceived (s : State) (b : Bool) : (s.replyBit b).rxReceived = s.rxReceived := rfl
@[simp] theorem State.replyBit_rxStartTick (s : State) (b : Bool) : (s.replyBit b).rxStartTick = s.rxStartTick := rfl
@[simp] theorem State.replyBit_txState (s : State) (b : Bool) : (s.replyBit b).txState = s.txState := rfl
@[simp] theorem State.replyBit_txSendTick (s : State) (b : Bool) : (s.replyBit b).txSendTick = s.txSendTick := rfl
@[simp] theorem State.replyBit_txFb (s : State) (b : Bool) : (s.replyBit b).txFb = s.txFb := rfl
@[simp] theorem State.replyBit_txLen (s : State) (b : Bool) : (s.replyBit b).txLen = s.txLen := rfl
@[simp] theorem State.replyBit_cbs (s : State) (b : Bool) : (s.replyBit b).cbs = s.cbs := rfl
@[simp] theorem State.replyBit_rst (s : State) (b : Bool) : (s.replyBit b).rst = s.rst := rfl
@[simp] theorem State.replyBit_hostPort (s : State) (b : Bool) : (s.replyBit b).hostPort = s.hostPort := rfl
@[simp] theorem State.replyBit_xportPort (s : State) (b : Bool) : (s.replyBit b).xportPort = s.xportPort := rfl
@[simp] theorem State.replyBit_grants (s : State) (b : Bool) : (s.replyBit b).grants = s.grants := rfl
@[simp] theorem State.replyBit_xpAnswers (s : State) (b : Bool) : (s.replyBit b).xpAnswers = s.xpAnswers := rfl
@[simp] theorem State.replyBit_draws (s : State) (b : Bool) : (s.replyBit b).draws = s.draws := rfl
@[simp] theorem State.replyBit_answer (s : State) (b : Bool) : (s.replyBit b).answer = some ⟨.ok, some b⟩ := rfl
@[simp] theorem State.replyBit_outs (s : State) (b : Bool) : (s.replyBit b).outs = s.outs := rfl

/-! ### `State.emit` -/

@[simp] theorem State.emit_params (s : State) (o : Output) : (s.emit o).params = s.params := rfl
@[simp] theorem State.emit_cfgN (s : State) (o : Output) : (s.emit o).cfgN = s.cfgN := rfl
@[simp] theorem State.emit_cfgTxTimeout (s : State) (o : Output) : (s.emit o).cfgTxTimeout = s.cfgTxTimeout := rfl
@[simp] theorem State.emit_cfgRxTimeout (s : State) (o : Output) : (s.emit o).cfgRxTimeout = s.cfgRxTimeout := rfl
@[simp] theorem State.emit_link (s : State) (o : Output) : (s.emit o).link = s.link := rfl
@[simp] theorem State.emit_rbMem (s : State) (o : Output) : (s.emit o).rbMem = s.rbMem := rfl
@[simp] theorem State.emit_rbHead (s : State) (o : Output) : (s.emit o).rbHead = s.rbHead := rfl
@[simp] theorem State.emit_rbTail (s : State) (o : Output) : (s.emit o).rbTail = s.rbTail := rfl
@[simp] theorem State.emit_rbOvf (s : State) (o : Output) : (s.emit o).rbOvf = s.rbOvf := rfl
@[simp] theorem State.emit_rxState (s : State) (o : Output) : (s.emit o).rxState = s.rxState := rfl
@[simp] theorem State.emit_rxHdr1 (s : State) (o : Output) : (s.emit o).rxHdr1 = s.rxHdr1 := rfl
@[simp] theorem State.emit_rxFb (s : State) (o : Output) : (s.emit o).rxFb = s.rxFb := rfl
@[simp] theorem State.emit_rxExpected (s : State) (o : Output) : (s.emit o).rxExpected = s.rxExpected := rfl
@[simp] theorem State.emit_rxReceived (s : State) (o : Output) : (s.emit o).rxReceived = s.rxReceived := rfl
@[simp] theorem State.emit_rxStartTick (s : State) (o : Output) : (s.emit o).rxStartTick = s.rxStartTick := rfl
@[simp] theorem State.emit_txState (s : State) (o : Output) : (s.emit o).txState = s.txState := rfl
@[simp] theorem State.emit_txSendTick (s : State) (o : Output) : (s.emit o).txSendTick = s.txSendTick := rfl
@[simp] theorem State.emit_txFb (s : State) (o : Output) : (s.emit o).txFb = s.txFb := rfl
@[simp] theorem State.emit_txLen (s : State) (o : Output) : (s.emit o).txLen = s.txLen := rfl
@[simp] theorem State.emit_cbs (s : State) (o : Output) : (s.emit o).cbs = s.cbs := rfl
@[simp] theorem State.emit_rst (s : State) (o : Output) : (s.emit o).rst = s.rst := rfl
@[simp] theorem State.emit_hostPort (s : State) (o : Output) : (s.emit o).hostPort = s.hostPort := rfl
@[simp] theorem State.emit_xportPort (s : State) (o : Output) : (s.emit o).xportPort = s.xportPort := rfl
@[simp] theorem State.emit_grants (s : State) (o : Output) : (s.emit o).grants = s.grants := rfl
@[simp] theorem State.emit_xpAnswers (s : State) (o : Output) : (s.emit o).xpAnswers = s.xpAnswers := rfl
@[simp] theorem State.emit_draws (s : State) (o : Output) : (s.emit o).draws = s.draws := rfl
@[simp] theorem State.emit_answer (s : State) (o : Output) : (s.emit o).answer = s.answer := rfl
@[simp] theorem State.emit_outs (s : State) (o : Output) : (s.emit o).outs = s.outs ++ [o] := rfl

/-! ### `State.drawFree` -/

@[simp] theorem State.drawFree_params (s : State) : s.drawFree.params = s.params := rfl
@[simp] theorem State.drawFree_cfgN (s : State) : s.drawFree.cfgN = s.cfgN := rfl
@[simp] theorem State.drawFree_cfgTxTimeout (s : State) : s.drawFree.cfgTxTimeout = s.cfgTxTimeout := rfl
@[simp] theorem State.drawFree_cfgRxTimeout (s : State) : s.drawFree.cfgRxTimeout = s.cfgRxTimeout := rfl
@[simp] theorem State.drawFree_link (s : State) : s.drawFree.link = s.link := rfl
@[simp] theorem State.drawFree_rbMem (s : State) : s.drawFree.rbMem = s.rbMem := rfl
@[simp] theorem State.drawFree_rbHead (s : State) : s.drawFree.rbHead = s.rbHead := rfl
@[simp] theorem State.drawFree_rbTail (s : State) : s.drawFree.rbTail = s.rbTail := rfl
@[simp] theorem State.drawFree_rbOvf (s : State) : s.drawFree.rbOvf = s.rbOvf := rfl
@[simp] theorem State.drawFree_rxState (s : State) : s.drawFree.rxState = s.rxState := rfl
@[simp] theorem State.drawFree_rxHdr1 (s : State) : s.drawFree.rxHdr1 = s.rxHdr1 := rfl
@[simp] theorem State.drawFree_rxFb (s : State) : s.drawFree.rxFb = s.rxFb := rfl
@[simp] theorem State.drawFree_rxExpected (s : State) : s.drawFree.rxExpected = s.rxExpected := rfl
@[simp] theorem State.drawFree_rxReceived (s : State) : s.drawFree.rxReceived = s.rxReceived := rfl
@[simp] theorem State.drawFree_rxStartTick (s : State) : s.drawFree.rxStartTick = s.rxStartTick := rfl
@[simp] theorem State.drawFree_txState (s : State) : s.drawFree.txState = s.txState := rfl
@[simp] theorem State.drawFree_txSendTick (s : State) : s.drawFree.txSendTick = s.txSendTick := rfl
@[simp] theorem State.drawFree_txFb (s : State) : s.drawFree.txFb = s.txFb := rfl
@[simp] theorem State.drawFree_txLen (s : State) : s.drawFree.txLen = s.txLen := rfl
@[simp] theorem State.drawFree_cbs (s : State) : s.drawFree.cbs = s.cbs := rfl
@[simp] theorem State.drawFree_rst (s : State) : s.drawFree.rst = s.rst := rfl
@[simp] theorem State.drawFree_hostPort (s : State) : s.drawFree.hostPort = s.hostPort := rfl
@[simp] theorem State.drawFree_xportPort (s : State) : s.drawFree.xportPort = s.xportPort := rfl
@[simp] theorem State.drawFree_grants (s : State) : s.drawFree.grants = s.grants := rfl
@[simp] theorem State.drawFree_xpAnswers (s : State) : s.drawFree.xpAnswers = s.xpAnswers := rfl
@[simp] theorem State.drawFree_draws (s : State) : s.drawFree.draws = s.draws + 1 := rfl
@[simp] theorem State.drawFree_answer (s : State) : s.drawFree.answer = s.answer := rfl
@[simp] theorem State.drawFree_outs (s : State) : s.drawFree.outs = s.outs := rfl

/-! ### `State.rbReset` -/

@[simp] theorem State.rbReset_params (s : State) : s.rbReset.params = s.params := rfl
@[simp] theorem State.rbReset_cfgN (s : State) : s.rbReset.cfgN = s.cfgN := rfl
@[simp] theorem State.rbReset_cfgTxTimeout (s : State) : s.rbReset.cfgTxTimeout = s.cfgTxTimeout := rfl
@[simp] theorem State.rbReset_cfgRxTimeout (s : State) : s.rbReset.cfgRxTimeout = s.cfgRxTimeout := rfl
@[simp] theorem State.rbReset_link (s : State) : s.rbReset.link = s.link := rfl
@[simp] theorem State.rbReset_rbMem (s : State) : s.rbReset.rbMem = s.rbMem := rfl
@[simp] theorem State.rbReset_rbHead (s : State) : s.rbReset.rbHead = -1 := rfl
@[simp] theorem State.rbReset_rbTail (s : State) : s.rbReset.rbTail = -1 := rfl
@[simp] theorem State.rbReset_rbOvf (s : State) : s.rbReset.rbOvf = false := rfl
@[simp] theorem State.rbReset_rxState (s : State) : s.rbReset.rxState = s.rxState := rfl
@[simp] theorem State.rbReset_rxHdr1 (s : State) : s.rbReset.rxHdr1 = s.rxHdr1 := rfl
@[simp] theorem State.rbReset_rxFb (s : State) : s.rbReset.rxFb = s.rxFb := rfl
@[simp] theorem State.rbReset_rxExpected (s : State) : s.rbReset.rxExpected = s.rxExpected := rfl
@[simp] theorem State.rbReset_rxReceived (s : State) : s.rbReset.rxReceived = s.rxReceived := rfl
@[simp] theorem State.rbReset_rxStartTick (s : State) : s.rbReset.rxStartTick = s.rxStartTick := rfl
@[simp] theorem State.rbReset_txState (s : State) : s.rbReset.txState = s.txState := rfl
@[simp] theorem State.rbReset_txSendTick (s : State) : s.rbReset.txSendTick = s.txSendTick := rfl
@[simp] theorem State.rbReset_txFb (s : State) : s.rbReset.txFb = s.txFb := rfl
@[simp] theorem State.rbReset_txLen (s : State) : s.rbReset.txLen = s.txLen := rfl
@[simp] theorem State.rbReset_cbs (s : State) : s.rbReset.cbs = s.cbs := rfl
@[simp] theorem State.rbReset_rst (s : State) : s.rbReset.rst = s.rst := rfl
@[simp] theorem State.rbReset_hostPort (s : State) : s.rbReset.hostPort = s.hostPort := rfl
@[simp] theorem State.rbReset_xportPort (s : State) : s.rbReset.xportPort = s.xportPort := rfl
@[simp] theorem State.rbReset_grants (s : State) : s.rbReset.grants = s.grants := rfl
@[simp] theorem State.rbReset_xpAnswers (s : State) : s.rbReset.xpAnswers = s.xpAnswers := rfl
@[simp] theorem State.rbReset_draws (s : State) : s.rbReset.draws = s.draws := rfl
@[simp] theorem State.rbReset_answer (s : State) : s.rbReset.answer = s.answer := rfl
@[simp] theorem State.rbReset_outs (s : State) : s.rbReset.outs = s.outs := rfl

/-! ### `State.rxReset` -/

@[simp] theorem State.rxReset_params (s : State) : s.rxReset.params = s.params := rfl
@[simp] theorem State.rxReset_cfgN (s : State) : s.rxReset.cfgN = s.cfgN := rfl
@[simp] theorem State.rxReset_cfgTxTimeout (s : State) : s.rxReset.cfgTxTimeout = s.cfgTxTimeout := rfl
@[simp] theorem State.rxReset_cfgRxTimeout (s : State) : s.rxReset.cfgRxTimeout = s.cfgRxTimeout := rfl
@[simp] theorem State.rxReset_link (s : State) : s.rxReset.link = s.link := rfl
@[simp] theorem State.rxReset_rbMem (s : State) : s.rxReset.rbMem = s.rbMem := rfl
@[simp] theorem State.rxReset_rbHead (s : State) : s.rxReset.rbHead = s.rbHead := rfl
@[simp] theorem State.rxReset_rbTail (s : State) : s.rxReset.rbTail = s.rbTail := rfl
@[simp] theorem State.rxReset_rbOvf (s : State) : s.rxReset.rbOvf = s.rbOvf := rfl
@[simp] theorem State.rxReset_rxState (s : State) : s.rxReset.rxState = .waitingHeader := rfl
@[simp] theorem State.rxReset_rxHdr1 (s : State) : s.rxReset.rxHdr1 = false := rfl
@[simp] theorem State.rxReset_rxFb (s : State) : s.rxReset.rxFb = s.rxFb := rfl
@[simp] theorem State.rxReset_rxExpected (s : State) : s.rxReset.rxExpected = s.rxExpected := rfl
@[simp] theorem State.rxReset_rxReceived (s : State) : s.rxReset.rxReceived = s.rxReceived := rfl
@[simp] theorem State.rxReset_rxStartTick (s : State) : s.rxReset.rxStartTick = s.rxStartTick := rfl
@[simp] theorem State.rxReset_txState (s : State) : s.rxReset.txState = s.txState := rfl
@[simp] theorem State.rxReset_txSendTick (s : State) : s.rxReset.txSendTick = s.txSendTick := rfl
@[simp] theorem State.rxReset_txFb (s : State) : s.rxReset.txFb = s.txFb := rfl
@[simp] theorem State.rxReset_txLen (s : State) : s.rxReset.txLen = s.txLen := rfl
@[simp] theorem State.rxReset_cbs (s : State) : s.rxReset.cbs = s.cbs := rfl
@[simp] theorem State.rxReset_rst (s : State) : s.rxReset.rst = s.rst := rfl
@[simp] theorem State.rxReset_hostPort (s : State) : s.rxReset.hostPort = s.hostPort := rfl
@[simp] theorem State.rxReset_xportPort (s : State) : s.rxReset.xportPort = s.xportPort := rfl
@[simp] theorem State.rxReset_grants (s : State) : s.rxReset.grants = s.grants := rfl
@[simp] theorem State.rxReset_xpAnswers (s : State) : s.rxReset.xpAnswers = s.xpAnswers := rfl
@[simp] theorem State.rxReset_draws (s : State) : s.rxReset.draws = s.draws := rfl
@[simp] theorem State.rxReset_answer (s : State) : s.rxReset.answer = s.answer := rfl
@[simp] theorem State.rxReset_outs (s : State) : s.rxReset.outs = s.outs := rfl

/-! ### `State.wipe` -/

@[simp] theorem State.wipe_params (s : State) : s.wipe.params = s.params := rfl
@[simp] theorem State.wipe_cfgN (s : State) : s.wipe.cfgN = s.cfgN := rfl
@[simp] theorem State.wipe_cfgTxTimeout (s : State) : s.wipe.cfgTxTimeout = s.cfgTxTimeout := rfl
@[simp] theorem State.wipe_cfgRxTimeout (s : State) : s.wipe.cfgRxTimeout = s.cfgRxTimeout := rfl
@[simp] theorem State.wipe_link (s : State) : s.wipe.link = s.link := rfl
@[simp] theorem State.wipe_rbMem (s : State) : s.wipe.rbMem = s.rbMem := rfl
@[simp] theorem State.wipe_rbHead (s : State) : s.wipe.rbHead = -1 := rfl
@[simp] theorem State.wipe_rbTail (s : State) : s.wipe.rbTail = -1 := rfl
@[simp] theorem State.wipe_rbOvf (s : State) : s.wipe.rbOvf = false := rfl
@[simp] theorem State.wipe_rxState (s : State) : s.wipe.rxState = .waitingHeader := rfl
@[simp] theorem State.wipe_rxHdr1 (s : State) : s.wipe.rxHdr1 = false := rfl
@[simp] theorem State.wipe_rxFb (s : State) : s.wipe.rxFb = s.rxFb := rfl
@[simp] theorem State.wipe_rxExpected (s : State) : s.wipe.rxExpected = s.rxExpected := rfl
@[simp] theorem State.wipe_rxReceived (s : State) : s.wipe.rxReceived = s.rxReceived := rfl
@[simp] theorem State.wipe_rxStartTick (s : State) : s.wipe.rxStartTick = s.rxStartTick := rfl
@[simp] theorem State.wipe_txState (s : State) : s.wipe.txState = .idle := rfl
@[simp] theorem State.wipe_txSendTick (s : State) : s.wipe.txSendTick = s.txSendTick := rfl
@[simp] theorem State.wipe_txFb (s : State) : s.wipe.txFb = s.txFb := rfl
@[simp] theorem State.wipe_txLen (s : State) : s.wipe.txLen = s.txLen := rfl
@[simp] theorem State.wipe_cbs (s : State) : s.wipe.cbs = s.cbs := rfl
@[simp] theorem State.wipe_rst (s : State) : s.wipe.rst = s.rst := rfl
@[simp] theorem State.wipe_hostPort (s : State) : s.wipe.hostPort = s.hostPort := rfl
@[simp] theorem State.wipe_xportPort (s : State) : s.wipe.xportPort = s.xportPort := rfl
@[simp] theorem State.wipe_grants (s : State) : s.wipe.grants = s.grants := rfl
@[simp] theorem State.wipe_xpAnswers (s : State) : s.wipe.xpAnswers = s.xpAnswers := rfl
@[simp] theorem State.wipe_draws (s : State) : s.wipe.draws = s.draws := rfl
@[simp] theorem State.wipe_answer (s : State) : s.wipe.answer = s.answer := rfl
@[simp] theorem State.wipe_outs (s : State) : s.wipe.outs = s.outs := rfl

/-! ### `State.putRx` -/

@[simp] theorem State.putRx_params (s : State) (i : Nat) (b : Byte) : (s.putRx i b).params = s.params := rfl
@[simp] theorem State.putRx_cfgN (s : State) (i : Nat) (b : Byte) : (s.putRx i b).cfgN = s.cfgN := rfl
@[simp] theorem State.putRx_cfgTxTimeout (s : State) (i : Nat) (b : Byte) : (s.putRx i b).cfgTxTimeout = s.cfgTxTimeout := rfl
@[simp] theorem State.putRx_cfgRxTimeout (s : State) (i : Nat) (b : Byte) : (s.putRx i b).cfgRxTimeout = s.cfgRxTimeout := rfl
@[simp] theorem State.putRx_link (s : State) (i : Nat) (b : Byte) : (s.putRx i b).link = s.link := rfl
@[simp] theorem State.putRx_rbMem (s : State) (i : Nat) (b : Byte) : (s.putRx i b).rbMem = s.rbMem := rfl
@[simp] theorem State.putRx_rbHead (s : State) (i : Nat) (b : Byte) : (s.putRx i b).rbHead = s.rbHead := rfl
@[simp] theorem State.putRx_rbTail (s : State) (i : Nat) (b : Byte) : (s.putRx i b).rbTail = s.rbTail := rfl
@[simp] theorem State.putRx_rbOvf (s : State) (i : Nat) (b : Byte) : (s.putRx i b).rbOvf = s.rbOvf := rfl
@[simp] theorem State.putRx_rxState (s : State) (i : Nat) (b : Byte) : (s.putRx i b).rxState = s.rxState := rfl
@[simp] theorem State.putRx_rxHdr1 (s : State) (i : Nat) (b : Byte) : (s.putRx i b).rxHdr1 = s.rxHdr1 := rfl
@[simp] theorem State.putRx_rxFb (s : State) (i : Nat) (b : Byte) : (s.putRx i b).rxFb = s.rxFb.write i b := rfl
@[simp] theorem State.putRx_rxExpected (s : State) (i : Nat) (b : Byte) : (s.putRx i b).rxExpected = s.rxExpected := rfl
@[simp] theorem State.putRx_rxReceived (s : State) (i : Nat) (b : Byte) : (s.putRx i b).rxReceived = s.rxReceived := rfl
@[simp] theorem State.putRx_rxStartTick (s : State) (i : Nat) (b : Byte) : (s.putRx i b).rxStartTick = s.rxStartTick := rfl
@[simp] theorem State.putRx_txState (s : State) (i : Nat) (b : Byte) : (s.putRx i b).txState = s.txState := rfl
@[simp] theorem State.putRx_txSendTick (s : State) (i : Nat) (b : Byte) : (s.putRx i b).txSendTick = s.txSendTick := rfl
@[simp] theorem State.putRx_txFb (s : State) (i : Nat) (b : Byte) : (s.putRx i b).txFb = s.txFb := rfl
@[simp] theorem State.putRx_txLen (s : State) (i : Nat) (b : Byte) : (s.putRx i b).txLen = s.txLen := rfl
@[simp] theorem State.putRx_cbs (s : State) (i : Nat) (b : Byte) : (s.putRx i b).cbs = s.cbs := rfl
@[simp] theorem State.putRx_rst (s : State) (i : Nat) (b : Byte) : (s.putRx i b).rst = s.rst := rfl
@[simp] theorem State.putRx_hostPort (s : State) (i : Nat) (b : Byte) : (s.putRx i b).hostPort = s.hostPort := rfl
@[simp] theorem State.putRx_xportPort (s : State) (i : Nat) (b : Byte) : (s.putRx i b).xportPort = s.xportPort := rfl
@[simp] theorem State.putRx_grants (s : State) (i : Nat) (b : Byte) : (s.putRx i b).grants = s.grants := rfl
@[simp] theorem State.putRx_xpAnswers (s : State) (i : Nat) (b : Byte) : (s.putRx i b).xpAnswers = s.xpAnswers := rfl
@[simp] theorem State.putRx_draws (s : State) (i : Nat) (b : Byte) : (s.putRx i b).draws = s.draws := rfl
@[simp] theorem State.putRx_answer (s : State) (i : Nat) (b : Byte) : (s.putRx i b).answer = s.answer := rfl
@[simp] theorem State.putRx_outs (s : State) (i : Nat) (b : Byte) : (s.putRx i b).outs = s.outs := rfl

/-! ### `State.buildTx` -/

@[simp] theorem State.buildTx_params (s : State) (frame : List Byte) : (s.buildTx frame).params = s.params := rfl
@[simp] theorem State.buildTx_cfgN (s : State) (frame : List Byte) : (s.buildTx frame).cfgN = s.cfgN := rfl
@[simp] theorem State.buildTx_cfgTxTimeout (s : State) (frame : List Byte) : (s.buildTx frame).cfgTxTimeout = s.cfgTxTimeout := rfl
@[simp] theorem State.buildTx_cfgRxTimeout (s : State) (frame : List Byte) : (s.buildTx frame).cfgRxTimeout = s.cfgRxTimeout := rfl
@[simp] theorem State.buildTx_link (s : State) (frame : List Byte) : (s.buildTx frame).link = s.link := rfl
@[simp] theorem State.buildTx_rbMem (s : State) (frame : List Byte) : (s.buildTx frame).rbMem = s.rbMem := rfl
@[simp] theorem State.buildTx_rbHead (s : State) (frame : List Byte) : (s.buildTx frame).rbHead = s.rbHead := rfl
@[simp] theorem State.buildTx_rbTail (s : State) (frame : List Byte) : (s.buildTx frame).rbTail = s.rbTail := rfl
@[simp] theorem State.buildTx_rbOvf (s : State) (frame : List Byte) : (s.buildTx frame).rbOvf = s.rbOvf := rfl
@[simp] theorem State.buildTx_rxState (s : State) (frame : List Byte) : (s.buildTx frame).rxState = s.rxState := rfl
@[simp] theorem State.buildTx_rxHdr1 (s : State) (frame : List Byte) : (s.buildTx frame).rxHdr1 = s.rxHdr1 := rfl
@[simp] theorem State.buildTx_rxFb (s : State) (frame : List Byte) : (s.buildTx frame).rxFb = s.rxFb := rfl
@[simp] theorem State.buildTx_rxExpected (s : State) (frame : List Byte) : (s.buildTx frame).rxExpected = s.rxExpected := rfl
@[simp] theorem State.buildTx_rxReceived (s : State) (frame : List Byte) : (s.buildTx frame).rxReceived = s.rxReceived := rfl
@[simp] theorem State.buildTx_rxStartTick (s : State) (frame : List Byte) : (s.buildTx frame).rxStartTick = s.rxStartTick := rfl
@[simp] theorem State.buildTx_txState (s : State) (frame : List Byte) : (s.buildTx frame).txState = s.txState := rfl
@[simp] theorem State.buildTx_txSendTick (s : State) (frame : List Byte) : (s.buildTx frame).txSendTick = s.txSendTick := rfl
@[simp] theorem State.buildTx_txFb (s : State) (frame : List Byte) : (s.buildTx frame).txFb = s.txFb.writeAll 0 frame := rfl
@[simp] theorem State.buildTx_txLen (s : State) (frame : List Byte) : (s.buildTx frame).txLen = frame.length := rfl
@[simp] theorem State.buildTx_cbs (s : State) (frame : List Byte) : (s.buildTx frame).cbs = s.cbs := rfl
@[simp] theorem State.buildTx_rst (s : State) (frame : List Byte) : (s.buildTx frame).rst = s.rst := rfl
@[simp] theorem State.buildTx_hostPort (s : State) (frame : List Byte) : (s.buildTx frame).hostPort = s.hostPort := rfl
@[simp] theorem State.buildTx_xportPort (s : State) (frame : List Byte) : (s.buildTx frame).xportPort = s.xportPort := rfl
@[simp] theorem State.buildTx_grants (s : State) (frame : List Byte) : (s.buildTx frame).grants = s.grants := rfl
@[simp] theorem State.buildTx_xpAnswers (s : State) (frame : List Byte) : (s.buildTx frame).xpAnswers = s.xpAnswers := rfl
@[simp] theorem State.buildTx_draws (s : State) (frame : List Byte) : (s.buildTx frame).draws = s.draws := rfl
@[simp] theorem State.buildTx_answer (s : State) (frame : List Byte) : (s.buildTx frame).answer = s.answer := rfl
@[simp] theorem State.buildTx_outs (s : State) (frame : List Byte) : (s.buildTx frame).outs = s.outs := rfl

/-! ### `State.configure` -/

@[simp] theorem State.configure_params (s : State) (n : Nat) (tx rx : Tick) : (s.configure n tx rx).params = s.params := rfl
@[simp] theorem State.configure_cfgN (s : State) (n : Nat) (tx rx : Tick) : (s.configure n tx rx).cfgN = n := rfl
@[simp] theorem State.configure_cfgTxTimeout (s : State) (n : Nat) (tx rx : Tick) : (s.configure n tx rx).cfgTxTimeout = tx := rfl
@[simp] theorem State.configure_cfgRxTimeout (s : State) (n : Nat) (tx rx : Tick) : (s.configure n tx rx).cfgRxTimeout = rx := rfl
@[simp] theorem State.configure_link (s : State) (n : Nat) (tx rx : Tick) : (s.configure n tx rx).link = .operational := rfl
@[simp] theorem State.configure_rbMem (s : State) (n : Nat) (tx rx : Tick) : (s.configure n tx rx).rbMem = s.rbMem := rfl
@[simp] theorem State.configure_rbHead (s : State) (n : Nat) (tx rx : Tick) : (s.configure n tx rx).rbHead = s.rbHead := rfl
@[simp] theorem State.configure_rbTail (s : State) (n : Nat) (tx rx : Tick) : (s.configure n tx rx).rbTail = s.rbTail := rfl
@[simp] theorem State.configure_rbOvf (s : State) (n : Nat) (tx rx : Tick) : (s.configure n tx rx).rbOvf = s.rbOvf := rfl
@[simp] theorem State.configure_rxState (s : State) (n : Nat) (tx rx : Tick) : (s.configure n tx rx).rxState = s.rxState := rfl
@[simp] theorem State.configure_rxHdr1 (s : State) (n : Nat) (tx rx : Tick) : (s.configure n tx rx).rxHdr1 = s.rxHdr1 := rfl
@[simp] theorem State.configure_rxFb (s : State) (n : Nat) (tx rx : Tick) : (s.configure n tx rx).rxFb = s.rxFb := rfl
@[simp] theorem State.configure_rxExpected (s : State) (n : Nat) (tx rx : Tick) : (s.configure n tx rx).rxExpected = s.rxExpected := rfl
@[simp] theorem State.configure_rxReceived (s : State) (n : Nat) (tx rx : Tick) : (s.configure n tx rx).rxReceived = s.rxReceived := rfl
@[simp] theorem State.configure_rxStartTick (s : State) (n : Nat) (tx rx : Tick) : (s.configure n tx rx).rxStartTick = s.rxStartTick := rfl
@[simp] theorem State.configure_txState (s : State) (n : Nat) (tx rx : Tick) : (s.configure n tx rx).txState = s.txState := rfl
@[simp] theorem State.configure_txSendTick (s : State) (n : Nat) (tx rx : Tick) : (s.configure n tx rx).txSendTick = s.txSendTick := rfl
@[simp] theorem State.configure_txFb (s : State) (n : Nat) (tx rx : Tick) : (s.configure n tx rx).txFb = s.txFb := rfl
@[simp] theorem State.configure_txLen (s : State) (n : Nat) (tx rx : Tick) : (s.configure n tx rx).txLen = s.txLen := rfl
@[simp] theorem State.configure_cbs (s : State) (n : Nat) (tx rx : Tick) : (s.configure n tx rx).cbs = s.cbs := rfl
@[simp] theorem State.configure_rst (s : State) (n : Nat) (tx rx : Tick) : (s.configure n tx rx).rst = s.rst := rfl
@[simp] theorem State.configure_hostPort (s : State) (n : Nat) (tx rx : Tick) : (s.configure n tx rx).hostPort = s.hostPort := rfl
@[simp] theorem State.configure_xportPort (s : State) (n : Nat) (tx rx : Tick) : (s.configure n tx rx).xportPort = s.xportPort := rfl
@[simp] theorem State.configure_grants (s : State) (n : Nat) (tx rx : Tick) : (s.configure n tx rx).grants = s.grants := rfl
@[simp] theorem State.configure_xpAnswers (s : State) (n : Nat) (tx rx : Tick) : (s.configure n tx rx).xpAnswers = s.xpAnswers := rfl
@[simp] theorem State.configure_draws (s : State) (n : Nat) (tx rx : Tick) : (s.configure n tx rx).draws = s.draws := rfl
@[simp] theorem State.configure_answer (s : State) (n : Nat) (tx rx : Tick) : (s.configure n tx rx).answer = s.answer := rfl
@[simp] theorem State.configure_outs (s : State) (n : Nat) (tx rx : Tick) : (s.configure n tx rx).outs = s.outs := rfl

/-! ### `State.txLatencyStep` -/

@[simp] theorem State.txLatencyStep_params (s : State) : s.txLatencyStep.params = s.params := rfl
@[simp] theorem State.txLatencyStep_cfgN (s : State) : s.txLatencyStep.cfgN = s.cfgN := rfl
@[simp] theorem State.txLatencyStep_cfgTxTimeout (s : State) : s.txLatencyStep.cfgTxTimeout = s.cfgTxTimeout := rfl
@[simp] theorem State.txLatencyStep_cfgRxTimeout (s : State) : s.txLatencyStep.cfgRxTimeout = s.cfgRxTimeout := rfl
@[simp] theorem State.txLatencyStep_link (s : State) : s.txLatencyStep.link = s.link := rfl
@[simp] theorem State.txLatencyStep_rbMem (s : State) : s.txLatencyStep.rbMem = s.rbMem := rfl
@[simp] theorem State.txLatencyStep_rbHead (s : State) : s.txLatencyStep.rbHead = s.rbHead := rfl
@[simp] theorem State.txLatencyStep_rbTail (s : State) : s.txLatencyStep.rbTail = s.rbTail := rfl
@[simp] theorem State.txLatencyStep_rbOvf (s : State) : s.txLatencyStep.rbOvf = s.rbOvf := rfl
@[simp] theorem State.txLatencyStep_rxState (s : State) : s.txLatencyStep.rxState = s.rxState := rfl
@[simp] theorem State.txLatencyStep_rxHdr1 (s : State) : s.txLatencyStep.rxHdr1 = s.rxHdr1 := rfl
@[simp] theorem State.txLatencyStep_rxFb (s : State) : s.txLatencyStep.rxFb = s.rxFb := rfl
@[simp] theorem State.txLatencyStep_rxExpected (s : State) : s.txLatencyStep.rxExpected = s.rxExpected := rfl
@[simp] theorem State.txLatencyStep_rxReceived (s : State) : s.txLatencyStep.rxReceived = s.rxReceived := rfl
@[simp] theorem State.txLatencyStep_rxStartTick (s : State) : s.txLatencyStep.rxStartTick = s.rxStartTick := rfl
@[simp] theorem State.txLatencyStep_txState (s : State) : s.txLatencyStep.txState = s.txState.latency := rfl
@[simp] theorem State.txLatencyStep_txSendTick (s : State) : s.txLatencyStep.txSendTick = s.txSendTick := rfl
@[simp] theorem State.txLatencyStep_txFb (s : State) : s.txLatencyStep.txFb = s.txFb := rfl
@[simp] theorem State.txLatencyStep_txLen (s : State) : s.txLatencyStep.txLen = s.txLen := rfl
@[simp] theorem State.txLatencyStep_cbs (s : State) : s.txLatencyStep.cbs = s.cbs := rfl
@[simp] theorem State.txLatencyStep_rst (s : State) : s.txLatencyStep.rst = s.rst := rfl
@[simp] theorem State.txLatencyStep_hostPort (s : State) : s.txLatencyStep.hostPort = s.hostPort := rfl
@[simp] theorem State.txLatencyStep_xportPort (s : State) : s.txLatencyStep.xportPort = s.xportPort := rfl
@[simp] theorem State.txLatencyStep_grants (s : State) : s.txLatencyStep.grants = s.grants := rfl
@[simp] theorem State.txLatencyStep_xpAnswers (s : State) : s.txLatencyStep.xpAnswers = s.xpAnswers := rfl
@[simp] theorem State.txLatencyStep_draws (s : State) : s.txLatencyStep.draws = s.draws := rfl
@[simp] theorem State.txLatencyStep_answer (s : State) : s.txLatencyStep.answer = s.answer := rfl
@[simp] theorem State.txLatencyStep_outs (s : State) : s.txLatencyStep.outs = s.outs := rfl

/-! ### `State.addCb` -/

@[simp] theorem State.addCb_params (s : State) (addr : VpAddr) (tag : Nat) : (s.addCb addr tag).params = s.params := rfl
@[simp] theorem State.addCb_cfgN (s : State) (addr : VpAddr) (tag : Nat) : (s.addCb addr tag).cfgN = s.cfgN := rfl
@[simp] theorem State.addCb_cfgTxTimeout (s : State) (addr : VpAddr) (tag : Nat) : (s.addCb addr tag).cfgTxTimeout = s.cfgTxTimeout := rfl
@[simp] theorem State.addCb_cfgRxTimeout (s : State) (addr : VpAddr) (tag : Nat) : (s.addCb addr tag).cfgRxTimeout = s.cfgRxTimeout := rfl
@[simp] theorem State.addCb_link (s : State) (addr : VpAddr) (tag : Nat) : (s.addCb addr tag).link = s.link := rfl
@[simp] theorem State.addCb_rbMem (s : State) (addr : VpAddr) (tag : Nat) : (s.addCb addr tag).rbMem = s.rbMem := rfl
@[simp] theorem State.addCb_rbHead (s : State) (addr : VpAddr) (tag : Nat) : (s.addCb addr tag).rbHead = s.rbHead := rfl
@[simp] theorem State.addCb_rbTail (s : State) (addr : VpAddr) (tag : Nat) : (s.addCb addr tag).rbTail = s.rbTail := rfl
@[simp] theorem State.addCb_rbOvf (s : State) (addr : VpAddr) (tag : Nat) : (s.addCb addr tag).rbOvf = s.rbOvf := rfl
@[simp] theorem State.addCb_rxState (s : State) (addr : VpAddr) (tag : Nat) : (s.addCb addr tag).rxState = s.rxState := rfl
@[simp] theorem State.addCb_rxHdr1 (s : State) (addr : VpAddr) (tag : Nat) : (s.addCb addr tag).rxHdr1 = s.rxHdr1 := rfl
@[simp] theorem State.addCb_rxFb (s : State) (addr : VpAddr) (tag : Nat) : (s.addCb addr tag).rxFb = s.rxFb := rfl
@[simp] theorem State.addCb_rxExpected (s : State) (addr : VpAddr) (tag : Nat) : (s.addCb addr tag).rxExpected = s.rxExpected := rfl
@[simp] theorem State.addCb_rxReceived (s : State) (addr : VpAddr) (tag : Nat) : (s.addCb addr tag).rxReceived = s.rxReceived := rfl
@[simp] theorem State.addCb_rxStartTick (s : State) (addr : VpAddr) (tag : Nat) : (s.addCb addr tag).rxStartTick = s.rxStartTick := rfl
@[simp] theorem State.addCb_txState (s : State) (addr : VpAddr) (tag : Nat) : (s.addCb addr tag).txState = s.txState := rfl
@[simp] theorem State.addCb_txSendTick (s : State) (addr : VpAddr) (tag : Nat) : (s.addCb addr tag).txSendTick = s.txSendTick := rfl
@[simp] theorem State.addCb_txFb (s : State) (addr : VpAddr) (tag : Nat) : (s.addCb addr tag).txFb = s.txFb := rfl
@[simp] theorem State.addCb_txLen (s : State) (addr : VpAddr) (tag : Nat) : (s.addCb addr tag).txLen = s.txLen := rfl
@[simp] theorem State.addCb_cbs (s : State) (addr : VpAddr) (tag : Nat) : (s.addCb addr tag).cbs = s.cbs ++ [⟨addr, tag % 2 ^ s.params.cbTagW⟩] := rfl
@[simp] theorem State.addCb_rst (s : State) (addr : VpAddr) (tag : Nat) : (s.addCb addr tag).rst = s.rst := rfl
@[simp] theorem State.addCb_hostPort (s : State) (addr : VpAddr) (tag : Nat) : (s.addCb addr tag).hostPort = s.hostPort := rfl
@[simp] theorem State.addCb_xportPort (s : State) (addr : VpAddr) (tag : Nat) : (s.addCb addr tag).xportPort = s.xportPort := rfl
@[simp] theorem State.addCb_grants (s : State) (addr : VpAddr) (tag : Nat) : (s.addCb addr tag).grants = s.grants := rfl
@[simp] theorem State.addCb_xpAnswers (s : State) (addr : VpAddr) (tag : Nat) : (s.addCb addr tag).xpAnswers = s.xpAnswers := rfl
@[simp] theorem State.addCb_draws (s : State) (addr : VpAddr) (tag : Nat) : (s.addCb addr tag).draws = s.draws := rfl
@[simp] theorem State.addCb_answer (s : State) (addr : VpAddr) (tag : Nat) : (s.addCb addr tag).answer = s.answer := rfl
@[simp] theorem State.addCb_outs (s : State) (addr : VpAddr) (tag : Nat) : (s.addCb addr tag).outs = s.outs := rfl

/-! ### `State.popAnswer`: it uses up an answer or a free value, nothing else -/

@[simp] theorem State.popAnswer_params (s : State) : s.popAnswer.params = s.params := by
  unfold State.popAnswer; split <;> rfl
@[simp] theorem State.popAnswer_cfgN (s : State) : s.popAnswer.cfgN = s.cfgN := by
  unfold State.popAnswer; split <;> rfl
@[simp] theorem State.popAnswer_cfgTxTimeout (s : State) : s.popAnswer.cfgTxTimeout = s.cfgTxTimeout := by
  unfold State.popAnswer; split <;> rfl
@[simp] theorem State.popAnswer_cfgRxTimeout (s : State) : s.popAnswer.cfgRxTimeout = s.cfgRxTimeout := by
  unfold State.popAnswer; split <;> rfl
@[simp] theorem State.popAnswer_link (s : State) : s.popAnswer.link = s.link := by
  unfold State.popAnswer; split <;> rfl
@[simp] theorem State.popAnswer_rbMem (s : State) : s.popAnswer.rbMem = s.rbMem := by
  unfold State.popAnswer; split <;> rfl
@[simp] theorem State.popAnswer_rbHead (s : State) : s.popAnswer.rbHead = s.rbHead := by
  unfold State.popAnswer; split <;> rfl
@[simp] theorem State.popAnswer_rbTail (s : State) : s.popAnswer.rbTail = s.rbTail := by
  unfold State.popAnswer; split <;> rfl
@[simp] theorem State.popAnswer_rbOvf (s : State) : s.popAnswer.rbOvf = s.rbOvf := by
  unfold State.popAnswer; split <;> rfl
@[simp] theorem State.popAnswer_rxState (s : State) : s.popAnswer.rxState = s.rxState := by
  unfold State.popAnswer; split <;> rfl
@[simp] theorem State.popAnswer_rxHdr1 (s : State) : s.popAnswer.rxHdr1 = s.rxHdr1 := by
  unfold State.popAnswer; split <;> rfl
@[simp] theorem State.popAnswer_rxFb (s : State) : s.popAnswer.rxFb = s.rxFb := by
  unfold State.popAnswer; split <;> rfl
@[simp] theorem State.popAnswer_rxExpected (s : State) : s.popAnswer.rxExpected = s.rxExpected := by
  unfold State.popAnswer; split <;> rfl
@[simp] theorem State.popAnswer_rxReceived (s : State) : s.popAnswer.rxReceived = s.rxReceived := by
  unfold State.popAnswer; split <;> rfl
@[simp] theorem State.popAnswer_rxStartTick (s : State) : s.popAnswer.rxStartTick = s.rxStartTick := by
  unfold State.popAnswer; split <;> rfl
@[simp] theorem State.popAnswer_txState (s : State) : s.popAnswer.txState = s.txState := by
  unfold State.popAnswer; split <;> rfl
@[simp] theorem State.popAnswer_txSendTick (s : State) : s.popAnswer.txSendTick = s.txSendTick := by
  unfold State.popAnswer; split <;> rfl
@[simp] theorem State.popAnswer_txFb (s : State) : s.popAnswer.txFb = s.txFb := by
  unfold State.popAnswer; split <;> rfl
@[simp] theorem State.popAnswer_txLen (s : State) : s.popAnswer.txLen = s.txLen := by
  unfold State.popAnswer; split <;> rfl
@[simp] theorem State.popAnswer_cbs (s : State) : s.popAnswer.cbs = s.cbs := by
  unfold State.popAnswer; split <;> rfl
@[simp] theorem State.popAnswer_rst (s : State) : s.popAnswer.rst = s.rst := by
  unfold State.popAnswer; split <;> rfl
@[simp] theorem State.popAnswer_hostPort (s : State) : s.popAnswer.hostPort = s.hostPort := by
  unfold State.popAnswer; split <;> rfl
@[simp] theorem State.popAnswer_xportPort (s : State) : s.popAnswer.xportPort = s.xportPort := by
  unfold State.popAnswer; split <;> rfl
@[simp] theorem State.popAnswer_grants (s : State) : s.popAnswer.grants = s.grants := by
  unfold State.popAnswer; split <;> rfl
@[simp] theorem State.popAnswer_answer (s : State) : s.popAnswer.answer = s.answer := by
  unfold State.popAnswer; split <;> rfl
@[simp] theorem State.popAnswer_outs (s : State) : s.popAnswer.outs = s.outs := by
  unfold State.popAnswer; split <;> rfl

/-- Using an answer up, as one record update. -/
theorem State.popAnswer_eq (s : State) :
    s.popAnswer = { s with xpAnswers := s.xpAnswers.tail, draws := if s.xpAnswers = [] then s.draws + 1 else s.draws } := by
  unfold State.popAnswer
  cases h : s.xpAnswers <;> simp_all

/-- Beginning an operation commutes with using an answer up. -/
theorem State.popAnswer_takeOp (s : State) : s.takeOp.popAnswer = s.popAnswer.takeOp := by
  simp only [State.popAnswer_eq, State.takeOp]

/-- The answer a request gets does not depend on the operation's outputs or answer. -/
@[simp] theorem State.nextAnswer_emit (s : State) (o : Output) : (s.emit o).nextAnswer = s.nextAnswer := rfl
@[simp] theorem State.nextAnswer_takeOp (s : State) : s.takeOp.nextAnswer = s.nextAnswer := rfl
@[simp] theorem State.nextAnswer_wipe (s : State) : s.wipe.nextAnswer = s.nextAnswer := rfl
@[simp] theorem State.nextAnswer_buildTx (s : State) (frame : List Byte) : (s.buildTx frame).nextAnswer = s.nextAnswer := rfl

end Sys2Proof.Machine
end

