-- ==== Sys2Proof/Laws/Ops.lean ====
section
/-! SUPPORT. One lemma per shared operation, saying once everything it can do: the request behind `WRITE_VP` and `READ_VP`, `rb_pop`, `rx_step`,
`rx_feed`'s frame, `dispatch`, routing and the tail of a tick, `recover`, `TICK`, `step`. -/

namespace Sys2Proof.Machine

/-! ### The request of R150 and R155, test by test (R218) -/

theorem State.request_notReady {s : State} {argsOk : Bool} {frame : List Byte} {sending : TxState} {now : Tick}
    (h : s.link ≠ .operational) : s.request argsOk frame sending now = s.reply .notReady := by
  simp [State.request, h]

theorem State.request_busy {s : State} {argsOk : Bool} {frame : List Byte} {sending : TxState} {now : Tick}
    (h : s.link = .operational) (hb : s.txState ≠ .idle) : s.request argsOk frame sending now = s.reply .busy := by
  simp [State.request, h, hb]

theorem State.request_invalid {s : State} {frame : List Byte} {sending : TxState} {now : Tick}
    (h : s.link = .operational) (hi : s.txState = .idle) :
    s.request false frame sending now = s.reply .invalidArg := by
  simp [State.request, h, hi]

/-- The frame is built and offered; what was offered is the frame itself (R79). -/
theorem State.request_offered {s : State} {frame : List Byte} {sending : TxState} {now : Tick}
    (h : s.link = .operational) (hi : s.txState = .idle) :
    s.request true frame sending now =
      (let s1 := ((s.buildTx frame).emit (.xpTxStart frame)).popAnswer
       if s.nextAnswer then State.reply { s1 with txSendTick := now, txState := sending } .ok else s1.reply .xportErr) := by
  simp [State.request, h, hi]

/-! ### `rb_pop` and `rx_step` (R116, R137) -/

theorem State.rbPop_empty {s : State} (h : s.rbTail = s.rbHead) : s.rbPop = .none := by simp [State.rbPop, h]

theorem State.rbPop_some {s : State} {b : Byte} (h : s.rbTail ≠ s.rbHead) (hb : s.rbMem.read s.nextTail.toNat = some b) :
    s.rbPop = .some b { s with rbTail := s.nextTail } := by simp [State.rbPop, h, hb]

theorem State.rbPop_unwritten {s : State} (h : s.rbTail ≠ s.rbHead) (hb : s.rbMem.read s.nextTail.toNat = none) :
    s.rbPop = .unwritten s.nextTail.toNat := by simp [State.rbPop, h, hb]

/-- `rx_step` takes no byte: done already, a frame without data, or an empty ring. -/
theorem State.rxStep_done {s : State} {now : Tick} (h : s.rxState = .dataReceived) : s.rxStep now = .next s := by
  simp [State.rxStep, h]

theorem State.rxStep_noData {s : State} {now : Tick} (h : s.rxState = .waitingData) (he : s.rxReceived = s.rxExpected) :
    s.rxStep now = .next { s with rxState := .dataReceived } := by
  simp [State.rxStep, h, he]

theorem State.wantsByte_iff {s : State} :
    s.wantsByte = true ↔ s.rxState ≠ .dataReceived ∧ ¬(s.rxState = .waitingData ∧ s.rxReceived = s.rxExpected) := by
  unfold State.wantsByte
  exact decide_eq_true_iff

theorem State.rxStep_wants {s : State} {now : Tick} (h : s.wantsByte = true) :
    s.rxStep now =
      if s.rbTail = s.rbHead then .next s
      else match s.rbMem.read s.nextTail.toNat with
        | none => .fault (.unwrittenRingByte s.nextTail.toNat)
        | some b => .next (State.rxFeed { s with rbTail := s.nextTail } b now) := by
  have ⟨h1, h2⟩ := State.wantsByte_iff.1 h
  unfold State.rxStep
  rw [if_neg h1, if_neg h2]
  by_cases h3 : s.rbTail = s.rbHead
  · simp [State.rbPop_empty h3, h3]
  · cases hb : s.rbMem.read s.nextTail.toNat with
    | none => simp [State.rbPop_unwritten h3 hb, h3]
    | some b => simp [State.rbPop_some h3 hb, h3]

/-- Everything a completed `rx_step` can have done. -/
theorem State.rxStep_next {s t : State} {now : Tick} (h : s.rxStep now = .next t) :
    (s.rxState = .dataReceived ∧ t = s) ∨
    (s.rxState = .waitingData ∧ s.rxReceived = s.rxExpected ∧ t = { s with rxState := .dataReceived }) ∨
    (s.wantsByte = true ∧ s.rbTail = s.rbHead ∧ t = s) ∨
    (s.wantsByte = true ∧ s.rbTail ≠ s.rbHead ∧
      ∃ b, s.rbMem.read s.nextTail.toNat = some b ∧ t = State.rxFeed { s with rbTail := s.nextTail } b now) := by
  by_cases hw : s.wantsByte = true
  · rw [State.rxStep_wants hw] at h
    split at h
    · next h3 => cases h; exact .inr (.inr (.inl ⟨hw, h3, rfl⟩))
    · next h3 =>
      split at h
      · cases h
      · next b hb => cases h; exact .inr (.inr (.inr ⟨hw, h3, b, hb, rfl⟩))
  · rw [State.wantsByte_iff] at hw
    by_cases h1 : s.rxState = .dataReceived
    · rw [State.rxStep_done h1] at h; cases h; exact .inl ⟨h1, rfl⟩
    · have h2 : s.rxState = .waitingData ∧ s.rxReceived = s.rxExpected := by tauto
      rw [State.rxStep_noData h2.1 h2.2] at h; cases h; exact .inr (.inl ⟨h2.1, h2.2, rfl⟩)

/-- `rx_step` stops only at a ring byte without a value (U1), and never refuses. -/
theorem State.rxStep_fault {s : State} {now : Tick} {f : Fault} :
    s.rxStep now = .fault f ↔ s.wantsByte = true ∧ s.rbTail ≠ s.rbHead ∧ s.rbMem.read s.nextTail.toNat = none ∧
      f = .unwrittenRingByte s.nextTail.toNat := by
  by_cases hw : s.wantsByte = true
  · rw [State.rxStep_wants hw]
    by_cases h3 : s.rbTail = s.rbHead
    · simp [h3]
    · cases hb : s.rbMem.read s.nextTail.toNat <;> simp [h3, hw, eq_comm]
  · have : ¬ s.wantsByte = true := hw
    rw [State.wantsByte_iff] at this
    by_cases h1 : s.rxState = .dataReceived
    · simp [State.rxStep_done h1, hw]
    · have h2 : s.rxState = .waitingData ∧ s.rxReceived = s.rxExpected := by tauto
      simp [State.rxStep_noData h2.1 h2.2, hw]

theorem State.rxStep_refused {s : State} {now : Tick} {r : Refusal} : s.rxStep now ≠ .refused r := by
  by_cases hw : s.wantsByte = true
  · rw [State.rxStep_wants hw]
    split
    · simp
    · split <;> simp
  · rw [State.wantsByte_iff] at hw
    by_cases h1 : s.rxState = .dataReceived
    · simp [State.rxStep_done h1]
    · have h2 : s.rxState = .waitingData ∧ s.rxReceived = s.rxExpected := by tauto
      simp [State.rxStep_noData h2.1 h2.2]

/-! ### `rx_feed`, one equation per row of R132 to R135 -/

theorem State.rxFeed_header {s : State} (b : Byte) (now : Tick) (h : s.rxState = .waitingHeader) :
    s.rxFeed b now = s.feedHeader b now := by unfold State.rxFeed; rw [h]

theorem State.rxFeed_first {s : State} {now : Tick} (h : s.rxState = .waitingHeader) :
    s.rxFeed 0x5A#8 now = { s with rxFb := s.rxFb.write 0 0x5A#8, rxHdr1 := true } := by
  exact (State.rxFeed_header _ _ h).trans (if_pos rfl)

theorem State.rxFeed_second {s : State} {now : Tick} (h : s.rxState = .waitingHeader) (h1 : s.rxHdr1 = true) :
    s.rxFeed 0xA5#8 now =
      { s with rxFb := s.rxFb.write 1 0xA5#8, rxHdr1 := false, rxState := .waitingLength, rxStartTick := now } := by
  exact (State.rxFeed_header _ _ h).trans ((if_neg (by decide)).trans (if_pos ⟨rfl, h1⟩))

theorem State.rxFeed_junk {s : State} {b : Byte} {now : Tick} (h : s.rxState = .waitingHeader) (hb : b ≠ 0x5A#8)
    (h1 : b ≠ 0xA5#8 ∨ s.rxHdr1 = false) : s.rxFeed b now = { s with rxHdr1 := false } := by
  have h2 : ¬ (b = 0xA5#8 ∧ s.rxHdr1 = true) := fun hc => h1.elim (fun hn => hn hc.1) fun hf => by simp [hf] at hc
  exact (State.rxFeed_header _ _ h).trans ((if_neg hb).trans (if_neg h2))

theorem State.rxFeed_length {s : State} (b : Byte) {now : Tick} (h : s.rxState = .waitingLength) :
    s.rxFeed b now = { s with rxFb := s.rxFb.write 2 b, rxState := .waitingFunctionCode } := by
  unfold State.rxFeed
  rw [h]
  rfl

theorem State.rxFeed_functionCode {s : State} (b : Byte) {now : Tick} (h : s.rxState = .waitingFunctionCode) :
    s.rxFeed b now =
      { s with rxFb := s.rxFb.write 3 b, rxExpected := s.rxByte 2 - 1#8, rxReceived := 0#8, rxState := .waitingData } := by
  unfold State.rxFeed
  rw [h]
  rfl

theorem State.rxFeed_data {s : State} (b : Byte) {now : Tick} (h : s.rxState = .waitingData) :
    s.rxFeed b now = { s with
      rxFb := if 4 + s.rxReceived.toNat < s.params.rxCap then s.rxFb.write (4 + s.rxReceived.toNat) b else s.rxFb
      rxReceived := s.rxReceived + 1#8
      rxState := if s.rxReceived + 1#8 = s.rxExpected then .dataReceived else .waitingData } := by
  unfold State.rxFeed
  rw [h]
  unfold State.feedData State.storeData
  by_cases hc : 4 + s.rxReceived.toNat < s.params.rxCap
  · simp only [if_pos hc]; rfl
  · simp only [if_neg hc]

/-- The frame of `rx_feed` (R130): only the parser's own elements. -/
theorem State.rxFeed_frame (s : State) (b : Byte) (now : Tick) :
    s.rxFeed b now = { s with
      rxState := (s.rxFeed b now).rxState, rxHdr1 := (s.rxFeed b now).rxHdr1, rxFb := (s.rxFeed b now).rxFb
      rxExpected := (s.rxFeed b now).rxExpected, rxReceived := (s.rxFeed b now).rxReceived
      rxStartTick := (s.rxFeed b now).rxStartTick } := by
  unfold State.rxFeed
  split
  · unfold State.feedHeader; split_ifs <;> rfl
  · rfl
  · rfl
  · unfold State.feedData State.storeData; split_ifs <;> rfl
  · rfl

/-- The frame of `rx_step`: the tail and the parser's own elements; the tail moves by one pop or not at all. -/
theorem State.rxStep_frame {s t : State} {now : Tick} (h : s.rxStep now = .next t) :
    (t.rbTail = s.rbTail ∨ t.rbTail = s.nextTail) ∧
    t = { s with
      rbTail := t.rbTail, rxState := t.rxState, rxHdr1 := t.rxHdr1, rxFb := t.rxFb, rxExpected := t.rxExpected
      rxReceived := t.rxReceived, rxStartTick := t.rxStartTick } := by
  rcases State.rxStep_next h with ⟨_, rfl⟩ | ⟨_, _, rfl⟩ | ⟨_, _, rfl⟩ | ⟨_, _, b, _, rfl⟩
  · exact ⟨.inl rfl, rfl⟩
  · exact ⟨.inl rfl, rfl⟩
  · exact ⟨.inl rfl, rfl⟩
  · rw [State.rxFeed_frame]; exact ⟨.inr rfl, rfl⟩

/-! ### `dispatch`, routing and the tail of a tick (R183, R166, R196) -/

/-- `dispatch` emits at most one `CB_FIRE` and changes nothing else. -/
theorem State.dispatch_cases (s : State) :
    s.dispatch = s ∨ (3 ≤ s.rxExpected.toNat ∧ ∃ i c, cbLookup s.replyAddr 0 s.cbs = some (i, c) ∧
      s.dispatch = s.emit (s.fireOutput i c)) := by
  unfold State.dispatch
  split
  · exact .inl rfl
  · split
    · next h _ i c hl => exact .inr ⟨by omega, i, c, hl, rfl⟩
    · exact .inl rfl

/-- The frame of `dispatch`. -/
theorem State.dispatch_frame (s : State) : s.dispatch = { s with outs := s.dispatch.outs } := by
  rcases s.dispatch_cases with h | ⟨_, i, c, _, h⟩
  · rw [h]
  · rw [h]; rfl

/-- The frame of step 4: parser state, transaction state and outputs. -/
theorem State.completeFrame_frame (s : State) :
    s.completeFrame = { s with
      rxState := s.completeFrame.rxState, rxHdr1 := s.completeFrame.rxHdr1, txState := s.completeFrame.txState
      outs := s.completeFrame.outs } := by
  unfold State.completeFrame
  split
  · unfold State.routeFrame
    split
    · rw [State.dispatch_frame]; rfl
    · split <;> rfl
  · rfl

/-- The frame of steps 3 to 5: parser state, transaction state and outputs. -/
theorem State.tickTail_frame (s : State) (now : Tick) :
    s.tickTail now = { s with
      rxState := (s.tickTail now).rxState, rxHdr1 := (s.tickTail now).rxHdr1, txState := (s.tickTail now).txState
      outs := (s.tickTail now).outs } := by
  have h := s.txLatencyStep.completeFrame_frame
  unfold State.tickTail State.txTimeoutCheck State.rxTimeoutCheck
  generalize s.txLatencyStep.completeFrame = u at h ⊢
  rw [h]
  split_ifs <;> rfl

/-- R170 as one record update. -/
theorem State.txTimeoutCheck_eq (s : State) (now : Tick) :
    s.txTimeoutCheck now = { s with
      txState := if s.txState ≠ .idle ∧ s.cfgTxTimeout ≤ elapsed now s.txSendTick then .idle else s.txState } := by
  unfold State.txTimeoutCheck State.txExpired
  by_cases h : s.txState ≠ .idle ∧ s.cfgTxTimeout ≤ elapsed now s.txSendTick
  · rw [if_pos (decide_eq_true h), if_pos h]
  · rw [if_neg (by simpa using h), if_neg h]

/-- R140 as one record update. -/
theorem State.rxTimeoutCheck_eq (s : State) (now : Tick) :
    s.rxTimeoutCheck now = { s with
      rxState := if s.rxState ≠ .waitingHeader ∧ s.cfgRxTimeout < elapsed now s.rxStartTick then .waitingHeader else s.rxState
      rxHdr1 := if s.rxState ≠ .waitingHeader ∧ s.cfgRxTimeout < elapsed now s.rxStartTick then false else s.rxHdr1 } := by
  unfold State.rxTimeoutCheck State.rxExpired State.rxReset
  by_cases h : s.rxState ≠ .waitingHeader ∧ s.cfgRxTimeout < elapsed now s.rxStartTick
  · rw [if_pos (decide_eq_true h), if_pos h, if_pos h]
  · rw [if_neg (by simpa using h), if_neg h, if_neg h]

/-- Steps 3 to 5 on a frame that is not complete: one latency move, then the two timeouts; no output. -/
theorem State.tickTail_incomplete {s : State} (now : Tick) (h : s.rxState ≠ .dataReceived) :
    s.tickTail now = { s with
      txState := if s.txState.latency ≠ .idle ∧ s.cfgTxTimeout ≤ elapsed now s.txSendTick then .idle else s.txState.latency
      rxState := if s.rxState ≠ .waitingHeader ∧ s.cfgRxTimeout < elapsed now s.rxStartTick then .waitingHeader else s.rxState
      rxHdr1 := if s.rxState ≠ .waitingHeader ∧ s.cfgRxTimeout < elapsed now s.rxStartTick then false else s.rxHdr1 } := by
  have hc : s.txLatencyStep.completeFrame = s.txLatencyStep := if_neg h
  unfold State.tickTail
  rw [hc, State.txTimeoutCheck_eq, State.rxTimeoutCheck_eq]
  rfl

/-- The scan of R183 finds nothing where no slot watches the address. -/
theorem cbLookup_none {a : VpAddr} {k : Nat} {cs : List CbSlot} (h : ∀ c ∈ cs, c.addr ≠ a) : cbLookup a k cs = none := by
  induction cs generalizing k with
  | nil => rfl
  | cons c cs ih => exact (if_neg (h c (by simp))).trans (ih fun d hd => h d (by simp [hd]))

/-- The scan of R183 finds the lowest slot that watches the address (R40). -/
theorem cbLookup_first {a : VpAddr} {k i : Nat} {c : CbSlot} {cs : List CbSlot} (hi : cs[i]? = some c) (ha : c.addr = a)
    (hf : ∀ j d, j < i → cs[j]? = some d → d.addr ≠ a) : cbLookup a k cs = some (k + i, c) := by
  induction cs generalizing k i with
  | nil => simp at hi
  | cons d cs ih =>
    cases i with
    | zero =>
      obtain rfl : d = c := by simpa using hi
      exact if_pos ha
    | succ i =>
      have hr := ih (k := k + 1) (i := i) (by simpa using hi) fun j e hj he => hf (j + 1) e (by omega) (by simpa using he)
      rw [show k + (i + 1) = k + 1 + i by omega, ← hr]
      exact if_neg (hf 0 d (by omega) (by simp))

/-- The callbacks a completed frame fires: at most one (R166, R183). -/
def State.fired (s : State) : List Output :=
  if s.rxByte 3 = 0x83#8 ∧ 3 ≤ s.rxExpected.toNat then
    match cbLookup s.replyAddr 0 s.cbs with
    | some (i, c) => [s.fireOutput i c]
    | none => []
  else []

/-- `tx_state` after a completed frame (R166). -/
def State.routedTx (s : State) : TxState :=
  if s.rxByte 3 = 0x83#8 then s.txState.closeRead
  else if s.holdsAck = true ∧ s.txState = .awaitingWriteAck then .writeAckReceived
  else s.txState

/-- Step 4 on a complete frame, whole: the parser is reset, the frame announced, then routed. -/
theorem State.completeFrame_eq {s : State} (h : s.rxState = .dataReceived) :
    s.completeFrame = { s with
      rxState := .waitingHeader, rxHdr1 := false, txState := s.routedTx
      outs := s.outs ++ .frameDone (s.rxByte 3) s.rxExpected :: s.fired } := by
  have hc : s.completeFrame = (s.rxReset.emit (.frameDone (s.rxByte 3) s.rxExpected)).routeFrame := if_pos h
  rw [hc]
  generalize hu : s.rxReset.emit (.frameDone (s.rxByte 3) s.rxExpected) = u
  by_cases h3 : s.rxByte 3 = 0x83#8
  · have hr : u.routeFrame = State.dispatch { u with txState := u.txState.closeRead } := if_pos (by subst hu; exact h3)
    have ht : s.routedTx = s.txState.closeRead := if_pos h3
    rw [hr, ht]
    subst hu
    by_cases hn : s.rxExpected.toNat < 3
    · have hf : s.fired = [] := if_neg (by omega)
      rw [hf]; exact if_pos hn
    · have hf : s.fired = match cbLookup s.replyAddr 0 s.cbs with
          | some (i, c) => [s.fireOutput i c]
          | none => [] := if_pos ⟨h3, by omega⟩
      refine (if_neg hn).trans ?_
      rw [hf]
      show (match cbLookup s.replyAddr 0 s.cbs with | some (i, c) => _ | none => _) = _
      cases cbLookup s.replyAddr 0 s.cbs with
      | none => rfl
      | some r => exact congrArg (fun o => { s with rxState := .waitingHeader, rxHdr1 := false, txState := s.txState.closeRead, outs := o }) (List.append_assoc _ _ _)
  · have hf : s.fired = [] := if_neg fun h => h3 h.1
    rw [hf]
    by_cases h4 : s.holdsAck = true ∧ s.txState = .awaitingWriteAck
    · have ht : s.routedTx = .writeAckReceived := (if_neg h3).trans (if_pos h4)
      rw [ht]; subst hu
      exact (if_neg h3).trans (if_pos h4)
    · have ht : s.routedTx = s.txState := (if_neg h3).trans (if_neg h4)
      rw [ht]; subst hu
      exact (if_neg h3).trans (if_neg h4)

/-- Step 4 on a complete frame: the parser is reset, the frame is announced, a read reply may fire one callback. -/
theorem State.completeFrame_complete {s : State} (h : s.rxState = .dataReceived) :
    s.completeFrame.rxState = .waitingHeader ∧ s.completeFrame.rxHdr1 = false ∧
    (s.completeFrame.txState = s.txState ∨
      (s.txState = .awaitingReadReply ∧ s.completeFrame.txState = .idle ∧ s.rxByte 3 = 0x83#8) ∨
      (s.txState = .awaitingWriteAck ∧ s.completeFrame.txState = .writeAckReceived ∧ s.holdsAck = true)) ∧
    ∃ fired, s.completeFrame.outs = s.outs ++ .frameDone (s.rxByte 3) s.rxExpected :: fired ∧
      (fired = [] ∨ (s.rxByte 3 = 0x83#8 ∧ 3 ≤ s.rxExpected.toNat ∧ ∃ i c, fired = [s.fireOutput i c])) := by
  rw [State.completeFrame_eq h]
  refine ⟨rfl, rfl, ?_, s.fired, rfl, ?_⟩
  · show s.routedTx = _ ∨ (_ ∧ s.routedTx = _ ∧ _) ∨ (_ ∧ s.routedTx = _ ∧ _)
    unfold State.routedTx
    split_ifs with h3 h4
    · cases s.txState <;> simp [TxState.closeRead, h3]
    · exact .inr (.inr ⟨h4.2, rfl, h4.1⟩)
    · exact .inl rfl
  · unfold State.fired
    split_ifs with h3
    · split
      · exact .inr ⟨h3.1, h3.2, _, _, rfl⟩
      · exact .inl rfl
    · exact .inl rfl

/-- Steps 3 to 5 on a complete frame. -/
theorem State.tickTail_complete {s : State} (now : Tick) (h : s.rxState = .dataReceived) :
    (s.tickTail now).rxState = .waitingHeader ∧ (s.tickTail now).rxHdr1 = false ∧
    (s.tickTail now).outs = s.txLatencyStep.completeFrame.outs ∧
    (s.tickTail now).txState =
      if s.txLatencyStep.completeFrame.txState ≠ .idle ∧ s.cfgTxTimeout ≤ elapsed now s.txSendTick then .idle
      else s.txLatencyStep.completeFrame.txState := by
  have hf := s.txLatencyStep.completeFrame_frame
  have hr := State.completeFrame_complete (s := s.txLatencyStep) h
  unfold State.tickTail
  generalize s.txLatencyStep.completeFrame = u at hf hr
  obtain ⟨h1, h2, -⟩ := hr
  have hc : u.cfgTxTimeout = s.cfgTxTimeout ∧ u.txSendTick = s.txSendTick := by rw [hf]; exact ⟨rfl, rfl⟩
  rw [State.txTimeoutCheck_eq, State.rxTimeoutCheck_eq, ← hc.1, ← hc.2]
  exact ⟨by simp [h1], by simp [h2], rfl, rfl⟩

/-- A byte completes a frame exactly when it is the last data byte expected (R135). -/
theorem State.rxFeed_completes {s : State} {b : Byte} {now : Tick} (hd : s.rxState ≠ .dataReceived) :
    (s.rxFeed b now).rxState = .dataReceived ↔ s.rxState = .waitingData ∧ s.rxReceived + 1#8 = s.rxExpected := by
  cases hr : s.rxState with
  | waitingHeader =>
    rw [State.rxFeed_header b now hr]
    simp only [State.feedHeader]
    split_ifs <;> simp [State.putRx, hr]
  | waitingLength => simp [State.rxFeed_length b hr]
  | waitingFunctionCode => simp [State.rxFeed_functionCode b hr]
  | waitingData => simp [State.rxFeed_data b hr]
  | dataReceived => exact absurd hr hd

/-- Step 2 completes a frame exactly when it takes the last data byte or none is expected. -/
theorem State.rxStep_completes {s t : State} {now : Tick} (hd : s.rxState ≠ .dataReceived) (h : s.rxStep now = .next t) :
    t.rxState = .dataReceived ↔ s.rxState = .waitingData ∧
      (s.rxReceived = s.rxExpected ∨ (s.rxReceived + 1#8 = s.rxExpected ∧ s.rbTail ≠ s.rbHead)) := by
  rcases State.rxStep_next h with ⟨h1, _⟩ | ⟨h1, h2, rfl⟩ | ⟨hw, he, rfl⟩ | ⟨hw, he, b, hb, rfl⟩
  · exact absurd h1 hd
  · exact iff_of_true rfl ⟨h1, .inl h2⟩
  · refine iff_of_false hd fun h => ?_
    rcases h.2 with h2 | h2
    · exact (State.wantsByte_iff.1 hw).2 ⟨h.1, h2⟩
    · exact h2.2 he
  · refine (State.rxFeed_completes (s := { s with rbTail := s.nextTail }) hd).trans (and_congr_right fun hr => ?_)
    have h2 : s.rxReceived ≠ s.rxExpected := fun h2 => (State.wantsByte_iff.1 hw).2 ⟨hr, h2⟩
    exact ⟨fun h => .inr ⟨h, he⟩, fun h => (h.resolve_left h2).1⟩
/-! ### The ring operations as a whole -/

/-- The frame of `RB_WRITE`. -/
theorem State.storeByte_frame (s : State) (i : Nat) (b : Byte) :
    s.storeByte i b = { s with rbMem := (s.storeByte i b).rbMem } := by unfold State.storeByte; split <;> rfl

theorem State.storeByte_taken {s : State} {i : Nat} (b : Byte) (h : s.link ≠ .uninit) (hi : i < s.cfgN) :
    s.storeByte i b = { s with rbMem := s.rbMem.write i b } := if_neg (by rw [not_or]; exact ⟨h, Nat.not_le.2 hi⟩)

/-- The frame of `RX_PROGRESS`. -/
theorem State.publish_frame (s : State) (i : Nat) :
    s.publish i = { s with rbHead := (s.publish i).rbHead, rbOvf := (s.publish i).rbOvf } := by
  unfold State.publish; split <;> rfl

theorem State.publish_taken {s : State} {i : Nat} (h : s.link ≠ .uninit) (hi : i < s.cfgN) :
    s.publish i = { s with rbOvf := s.rbOvf || s.overflows i, rbHead := (i : Int) } :=
  if_neg (by rw [not_or]; exact ⟨h, Nat.not_le.2 hi⟩)

/-- The frame of `RXBYTES`. -/
theorem State.receiveFrom_frame (s : State) (h : Int) (bs : List Byte) :
    s.receiveFrom h bs = { s with
      rbMem := (s.receiveFrom h bs).rbMem, rbHead := (s.receiveFrom h bs).rbHead, rbOvf := (s.receiveFrom h bs).rbOvf } := by
  induction bs generalizing s h with
  | nil =>
    show s.publish _ = { s with rbMem := (s.publish _).rbMem, rbHead := (s.publish _).rbHead, rbOvf := (s.publish _).rbOvf }
    rw [State.publish_frame]
  | cons b bs ih =>
    show (s.storeByte ((h + 1) % (s.cfgN : Int)).toNat b).receiveFrom (h + 1) bs = { s with
      rbMem := ((s.storeByte ((h + 1) % (s.cfgN : Int)).toNat b).receiveFrom (h + 1) bs).rbMem
      rbHead := ((s.storeByte ((h + 1) % (s.cfgN : Int)).toNat b).receiveFrom (h + 1) bs).rbHead
      rbOvf := ((s.storeByte ((h + 1) % (s.cfgN : Int)).toNat b).receiveFrom (h + 1) bs).rbOvf }
    have hs := s.storeByte_frame ((h + 1) % (s.cfgN : Int)).toNat b
    generalize s.storeByte ((h + 1) % (s.cfgN : Int)).toNat b = u at hs ⊢
    have hu := ih u (h + 1)
    generalize u.receiveFrom (h + 1) bs = v at hu ⊢
    rw [hu, hs]

/-- The frame of the request: the transaction's elements, the answer drawn, the reply and the outputs. -/
theorem State.request_frame (s : State) (argsOk : Bool) (frame : List Byte) (sending : TxState) (now : Tick) :
    s.request argsOk frame sending now = { s with
      txState := (s.request argsOk frame sending now).txState, txSendTick := (s.request argsOk frame sending now).txSendTick
      txFb := (s.request argsOk frame sending now).txFb, txLen := (s.request argsOk frame sending now).txLen
      xpAnswers := (s.request argsOk frame sending now).xpAnswers, draws := (s.request argsOk frame sending now).draws
      answer := (s.request argsOk frame sending now).answer, outs := (s.request argsOk frame sending now).outs } := by
  unfold State.request
  simp only [State.popAnswer_eq]
  split_ifs <;> rfl

/-- A request leaves `tx_state` or opens a transaction from `Idle` and answers `OK`. -/
theorem State.request_txState (s : State) (argsOk : Bool) (frame : List Byte) (sending : TxState) (now : Tick) :
    (s.request argsOk frame sending now).txState = s.txState ∨
      (s.txState = .idle ∧ (s.request argsOk frame sending now).txState = sending ∧
        (s.request argsOk frame sending now).answer = some ⟨.ok, none⟩) := by
  by_cases h : s.link = .operational
  · by_cases hi : s.txState = .idle
    · cases argsOk with
      | false => rw [State.request_invalid h hi]; exact .inl rfl
      | true =>
        rw [State.request_offered h hi]
        simp only
        split
        · exact .inr ⟨hi, rfl, rfl⟩
        · exact .inl (by simp)
    · rw [State.request_busy h hi]; exact .inl rfl
  · rw [State.request_notReady h]; exact .inl rfl

/-! ### `recover` and `TICK` (R195, R196) -/

/-- The three outcomes of `recover()`. -/
theorem State.recover_cases (s : State) :
    s.recover =
      if s.nextAnswer = false then (false, (s.wipe.emit .xpAbort).popAnswer)
      else if s.popAnswer.nextAnswer = false then
        (false, ((s.wipe.emit .xpAbort).popAnswer.emit (.xpRxStart s.cfgN)).popAnswer)
      else
        (true, { ((s.wipe.emit .xpAbort).popAnswer.emit (.xpRxStart s.cfgN)).popAnswer with link := .operational }) := by
  have h : (s.wipe.emit .xpAbort).popAnswer.nextAnswer = s.popAnswer.nextAnswer := by
    unfold State.popAnswer State.nextAnswer State.wipe State.emit State.rbReset State.rxReset
    cases s.xpAnswers <;> rfl
  unfold State.recover
  by_cases h1 : s.nextAnswer = true
  · by_cases h2 : s.popAnswer.nextAnswer = true <;> simp [h1, h2, h]
  · simp [h1]

/-- `XP_ABORT` refused: the resets, one output, `link` kept. -/
theorem State.recover_abortRefused {s : State} (h : s.nextAnswer = false) :
    s.recover = (false, { s.popAnswer with
      rxState := .waitingHeader, rxHdr1 := false, txState := .idle, rbHead := -1, rbTail := -1, rbOvf := false
      outs := s.outs ++ [.xpAbort] }) := by
  rw [s.recover_cases, if_pos h]
  simp only [State.popAnswer_eq, State.wipe, State.emit, State.rbReset, State.rxReset]

/-- `XP_RX_START` refused: the resets, two outputs, `link` kept. -/
theorem State.recover_startRefused {s : State} (h : s.nextAnswer = true) (h2 : s.popAnswer.nextAnswer = false) :
    s.recover = (false, { s.popAnswer.popAnswer with
      rxState := .waitingHeader, rxHdr1 := false, txState := .idle, rbHead := -1, rbTail := -1, rbOvf := false
      outs := s.outs ++ [.xpAbort, .xpRxStart s.cfgN] }) := by
  rw [s.recover_cases, if_neg (by simp [h]), if_pos h2, List.append_cons]
  simp only [State.popAnswer_eq, State.wipe, State.emit, State.rbReset, State.rxReset]

/-- Both accepted: the resets, two outputs, the block is operational. -/
theorem State.recover_accepted {s : State} (h : s.nextAnswer = true) (h2 : s.popAnswer.nextAnswer = true) :
    s.recover = (true, { s.popAnswer.popAnswer with
      rxState := .waitingHeader, rxHdr1 := false, txState := .idle, rbHead := -1, rbTail := -1, rbOvf := false
      outs := s.outs ++ [.xpAbort, .xpRxStart s.cfgN], link := .operational }) := by
  rw [s.recover_cases, if_neg (by simp [h]), if_neg (by simp [h2]), List.append_cons]
  simp only [State.popAnswer_eq, State.wipe, State.emit, State.rbReset, State.rxReset]

/-- After `recover()`, accepted or not, the parser waits for a header, the ring is empty and no transaction is open. -/
theorem State.recover_rest (s : State) :
    s.recover.2.rxState = .waitingHeader ∧ s.recover.2.rxHdr1 = false ∧ s.recover.2.rbHead = -1 ∧ s.recover.2.rbTail = -1 ∧
      s.recover.2.txState = .idle := by
  rw [State.recover_cases]
  split
  · simp
  · split <;> simp

/-- Steps 2 to 5 change nothing where there is no byte, no frame and no transaction. -/
theorem State.tickBody_quiet {s : State} {now : Tick} (hr : s.rxState = .waitingHeader) (he : s.rbTail = s.rbHead)
    (ht : s.txState = .idle) : s.tickBody now = .next (s.reply .ok) := by
  have hs : s.rxStep now = .next s := by
    rw [State.rxStep_wants (State.wantsByte_iff.2 ⟨by rw [hr]; decide, by rw [hr]; rintro ⟨h, _⟩; cases h⟩), if_pos he]
  have hw : s.tickTail now = s := by
    rw [State.tickTail_incomplete now (by rw [hr]; decide)]
    simp [hr, ht]
    cases s; simp_all [TxState.latency]
  have hb : s.tickBody now = .next ((s.tickTail now).reply .ok) := by simp only [State.tickBody, hs]
  rw [hb, hw]

/-- The states in which a `TICK` begins its step 2: operational, or just recovered. -/
def State.TickStarts (s s0 : State) : Prop :=
  (s.link = .operational ∧ s0 = s.takeOp) ∨
    (s.link = .transportError ∧ s.takeOp.recover.1 = true ∧ s0 = s.takeOp.recover.2)

/-- R196 before `INIT`. -/
theorem execTick_uninit {s : State} {now : Tick} (h : s.link = .uninit) :
    exec (.tick now) s = .next (s.takeOp.reply .notReady) := if_pos h

/-- R196 with a transport error pending: recovery first. -/
theorem execTick_error {s : State} {now : Tick} (h : s.link = .transportError) :
    exec (.tick now) s =
      if s.takeOp.recover.1 = true then s.takeOp.recover.2.tickBody now else .next (s.takeOp.recover.2.reply .xportErr) :=
  (if_neg (by rw [State.takeOp_link, h]; decide)).trans (if_pos h)

/-- A `TICK` of an operational block is steps 2 to 5 (R196). -/
theorem execTick_operational {s : State} {now : Tick} (h : s.link = .operational) :
    exec (.tick now) s = s.takeOp.tickBody now :=
  (if_neg (by rw [State.takeOp_link, h]; decide)).trans (if_neg (by rw [State.takeOp_link, h]; decide))

/-- Steps 2 to 5 end only when step 2 does. -/
theorem State.tickBody_next {s t : State} {now : Tick} (h : s.tickBody now = .next t) :
    ∃ s1, s.rxStep now = .next s1 ∧ t = (s1.tickTail now).reply .ok := by
  unfold State.tickBody at h
  split at h <;> cases h
  next s1 h4 => exact ⟨s1, h4, rfl⟩

/-- Everything a completed `TICK` can have done. -/
theorem execTick_next {s t : State} {now : Tick} (h : exec (.tick now) s = .next t) :
    (s.link = .uninit ∧ t = s.takeOp.reply .notReady) ∨
    (s.link = .transportError ∧ s.takeOp.recover.1 = false ∧ t = s.takeOp.recover.2.reply .xportErr) ∨
    ∃ s0 s1, s.TickStarts s0 ∧ s0.rxStep now = .next s1 ∧ t = (s1.tickTail now).reply .ok := by
  cases hl : s.link with
  | uninit => rw [execTick_uninit hl] at h; cases h; exact .inl ⟨rfl, rfl⟩
  | transportError =>
    rw [execTick_error hl] at h
    split at h
    · next h3 =>
      obtain ⟨s1, h4, rfl⟩ := State.tickBody_next h
      exact .inr (.inr ⟨_, s1, .inr ⟨hl, h3, rfl⟩, h4, rfl⟩)
    · next h3 => cases h; exact .inr (.inl ⟨rfl, by simpa using h3, rfl⟩)
  | operational =>
    rw [execTick_operational hl] at h
    obtain ⟨s1, h4, rfl⟩ := State.tickBody_next h
    exact .inr (.inr ⟨_, s1, .inl ⟨hl, rfl⟩, h4, rfl⟩)

/-! ### `step` -/

/-- Everything a step can do. -/
theorem step_cases (s : State) :
    (s.rst = true ∧ step s = .next s.applyRst) ∨
    (s.rst = false ∧ s.granted = none ∧ step s = .next s) ∨
    ∃ p, s.rst = false ∧ s.granted = some p ∧
      ((∃ i, decodeOffer p (s.offered p) = .instr i ∧ step s = exec i (s.consume p)) ∨
       (decodeOffer p (s.offered p) = .reserved ∧ step s = .next ((s.consume p).reservedCode p)) ∨
       (∃ e, decodeOffer p (s.offered p) = .bad e ∧ step s = .refused (.undecodable p e))) := by
  by_cases h : s.rst = true
  · exact .inl ⟨h, by simp [step, h]⟩
  · have h : s.rst = false := by simpa using h
    cases hg : s.granted with
    | none => exact .inr (.inl ⟨h, rfl, by simp [step, h, hg]⟩)
    | some p =>
      refine .inr (.inr ⟨p, h, rfl, ?_⟩)
      cases hd : decodeOffer p (s.offered p) with
      | instr i => exact .inl ⟨i, rfl, by simp [step, h, hg, hd]⟩
      | reserved => exact .inr (.inl ⟨rfl, by simp [step, h, hg, hd]⟩)
      | bad e => exact .inr (.inr ⟨e, rfl, by simp [step, h, hg, hd]⟩)

/-- Serving a port changes no element of the block, and neither the answer nor the outputs. -/
theorem State.consume_frame (s : State) (p : Port) :
    s.consume p = { s with
      hostPort := (s.consume p).hostPort, xportPort := (s.consume p).xportPort, grants := (s.consume p).grants
      draws := (s.consume p).draws } := by
  unfold State.consume State.useGrant
  split
  · split <;> cases p <;> rfl
  · cases p <;> rfl

end Sys2Proof.Machine
end

