-- ==== Sys2Proof/Laws/PerInstr.lean ====
section
/-! SUPPORT. Statements for all instructions, one lemma per constructor: every encoding carries its row's bits (R87, R88, R97). -/

/-- The bytes of an instruction's encoding agree with its row of spec/opcode_table.json under the row's mask. -/
def Sys2Proof.Laws.RowMatch.Statement (i : Sys2Proof.Instr) : Prop :=
  Sys2Proof.matchesRow i.row (Sys2Proof.encode i) = true

namespace Sys2Proof.Laws.RowMatch

theorem init (n : Nat) (tx rx : Tick) : Statement (.init n tx rx) := rfl
theorem tick (now : Tick) : Statement (.tick now) := rfl
theorem writeVp (addr : VpAddr) (values : List Value) (now : Tick) : Statement (.writeVp addr values now) := rfl
theorem readVp (addr : VpAddr) (count : Byte) (now : Tick) : Statement (.readVp addr count now) := rfl
theorem registerCb (addr : VpAddr) (tag : Nat) : Statement (.registerCb addr tag) := rfl
theorem isIdle : Statement .isIdle := rfl
theorem rbWrite (idx : Nat) (byte : Byte) : Statement (.rbWrite idx byte) := rfl
theorem rxProgress (idx : Nat) : Statement (.rxProgress idx) := rfl
theorem txDone : Statement .txDone := rfl
theorem xportErr : Statement .xportErr := rfl
theorem writeReq (len : Byte) (addr : VpAddr) (body : List Byte) : Statement (.writeReq len addr body) := by
  simp [Statement, Instr.row, encode, frameBytes, matchesRow]
theorem writeAck : Statement .writeAck := rfl
theorem readReq (addr : VpAddr) (count : Byte) : Statement (.readReq addr count) := rfl
theorem readReply (len : Byte) (data : List Byte) : Statement (.readReply len data) := by
  simp [Statement, Instr.row, encode, frameBytes, matchesRow]

end Sys2Proof.Laws.RowMatch
end

