-- ==== Sys2Proof/Tests/Slice0.lean ====
section
/-! SUPPORT. The model's own tests: ill-formed instructions refused, one word of every constructor written out from the encodings of R81 to
R84 and R96, single steps taken from the vectors of spec/95_test_vectors.md, and for every obligation with hypotheses a state and operands
that meet them. -/

namespace Sys2Proof.Tests

open Sys2Proof.Machine

/-- What a completed operation leaves, looked at through `f`. -/
def seen {α : Type} (o : Host.Outcome State Fault Refusal) (f : State → α) : Option α :=
  match o with
  | .next s => some (f s)
  | .fault _ => none
  | .refused _ => none

/-- An operational block with `N = 8`, both timeouts set, the transport accepting. -/
def ready : State :=
  { State.reset with cfgN := 8, cfgTxTimeout := 100#32, cfgRxTimeout := 50#32, link := .operational, xpAnswers := [true, true] }

/-- `ready` with `bs` at the indices from 0, all published and none consumed. -/
def holding (bs : List Byte) : State := { ready with rbMem := Memory.writeAll [] 0 bs, rbHead := (bs.length : Int) - 1 }

/-- `ready` with the given head and tail. -/
def ringAt (head tail : Int) : State := { ready with rbHead := head, rbTail := tail }

/-! ### WellFormed refuses an ill-formed term of each check -/

theorem test_wf_init : (Instr.init 65536 0#32 0#32).wf = false ∧ (Instr.init 65535 0#32 0#32).wf = true := by decide
theorem test_wf_writeVp :
    (Instr.writeVp 0#16 (List.replicate 256 0#16) 0#32).wf = false ∧ (Instr.writeVp 0#16 (List.replicate 255 0#16) 0#32).wf = true := by
  simp only [Instr.wf, List.length_replicate]; decide
theorem test_wf_registerCb : (Instr.registerCb 0#16 256).wf = false ∧ (Instr.registerCb 0#16 255).wf = true := by decide
theorem test_wf_rbWrite : (Instr.rbWrite 65536 0#8).wf = false ∧ (Instr.rbWrite 65535 0#8).wf = true := by decide
theorem test_wf_rxProgress : (Instr.rxProgress 65536).wf = false ∧ (Instr.rxProgress 65535).wf = true := by decide
theorem test_wf_writeReq_empty : (Instr.writeReq 0x03#8 0#16 []).wf = false := by decide
theorem test_wf_writeReq_odd : (Instr.writeReq 0x06#8 0#16 [1#8, 2#8, 3#8]).wf = false := by decide
theorem test_wf_writeReq_length : (Instr.writeReq 0x06#8 0#16 [1#8, 2#8]).wf = false := by decide
theorem test_wf_writeReq_count : (Instr.writeReq 0x01#8 0#16 (List.replicate 254 0#8)).wf = false := by
  simp only [Instr.wf, writeReqLawful, List.length_replicate]; decide
theorem test_wf_readReq : (Instr.readReq 0#16 0#8).wf = false ∧ (Instr.readReq 0#16 1#8).wf = true := by decide
theorem test_wf_readReply : (Instr.readReply 0x03#8 [1#8]).wf = false ∧ (Instr.readReply 0x02#8 [1#8]).wf = true := by decide

/-! ### One word of every constructor (vectors E1 to E10, E13, E16, R82, S4c) -/

theorem test_decode_init :
    decode .host [0x01#8, 0x00#8, 0x10#8, 0x00#8, 0x00#8, 0x00#8, 0x64#8, 0x00#8, 0x00#8, 0x00#8, 0x32#8] =
      .instr (.init 16 100#32 50#32) := by decide
theorem test_decode_tick : decode .host [0x02#8, 0x00#8, 0x00#8, 0x04#8, 0x4C#8] = .instr (.tick 1100#32) := by decide
theorem test_decode_writeVp :
    decode .host [0x03#8, 0x10#8, 0x00#8, 0x02#8, 0x00#8, 0x64#8, 0x00#8, 0x32#8, 0x00#8, 0x00#8, 0x00#8, 0x05#8] =
      .instr (.writeVp 0x1000#16 [0x0064#16, 0x0032#16] 5#32) := by decide
theorem test_decode_readVp :
    decode .host [0x04#8, 0x00#8, 0x16#8, 0x03#8, 0x00#8, 0x00#8, 0x00#8, 0x14#8] = .instr (.readVp 0x0016#16 3#8 20#32) := by decide
theorem test_decode_registerCb : decode .host [0x05#8, 0x00#8, 0x16#8, 0x07#8] = .instr (.registerCb 0x0016#16 7) := by decide
theorem test_decode_isIdle : decode .host [0x06#8] = .instr .isIdle := by decide
theorem test_decode_rbWrite : decode .xport [0x08#8, 0x00#8, 0x03#8, 0x5A#8] = .instr (.rbWrite 3 0x5A#8) := by decide
theorem test_decode_rxProgress : decode .xport [0x09#8, 0x00#8, 0x0C#8] = .instr (.rxProgress 12) := by decide
theorem test_decode_txDone : decode .xport [0x0A#8] = .instr .txDone := by decide
theorem test_decode_xportErr : decode .xport [0x0B#8] = .instr .xportErr := by decide
theorem test_decode_writeReq :
    decode .host [0x5A#8, 0xA5#8, 0x05#8, 0x82#8, 0x20#8, 0x00#8, 0xAB#8, 0xCD#8] =
      .instr (.writeReq 0x05#8 0x2000#16 [0xAB#8, 0xCD#8]) := by decide
theorem test_decode_writeAck : decode .xport [0x5A#8, 0xA5#8, 0x03#8, 0x82#8, 0x4F#8, 0x4B#8] = .instr .writeAck := by decide
theorem test_decode_readReq :
    decode .host [0x5A#8, 0xA5#8, 0x04#8, 0x83#8, 0xFF#8, 0xFF#8, 0xFF#8] = .instr (.readReq 0xFFFF#16 255#8) := by decide
theorem test_decode_readReply :
    decode .xport [0x5A#8, 0xA5#8, 0x06#8, 0x83#8, 0x00#8, 0x20#8, 0x01#8, 0xAA#8, 0xBB#8] =
      .instr (.readReply 0x06#8 [0x00#8, 0x20#8, 0x01#8, 0xAA#8, 0xBB#8]) := by decide

/-- Reserved codes and codes of the other port (R94), and what no operation begins with. -/
theorem test_decode_reserved :
    decode .host [0x00#8] = .reserved ∧ decode .host [0x07#8] = .reserved ∧ decode .host [0x08#8] = .reserved ∧
      decode .xport [0x0C#8] = .reserved ∧ decode .xport [0x0F#8] = .reserved ∧ decode .xport [0x06#8] = .reserved ∧
      decode .host [0x10#8] = .bad (.notSerialised 0x10#8) ∧ decode .host [] = .bad .empty ∧
      decode .host [0x02#8, 0x00#8] = .bad .truncated ∧
      decode .xport [0x5A#8, 0xA5#8, 0x03#8, 0x81#8, 0x00#8] = .bad .noSuchFrame := by decide

/-- Rows of spec/opcode_table.json in its own numbering: an operation code is its 8 bits, a frame one big-endian number. -/
theorem test_table_words :
    decodeTableWord 8 0x0A = some .txDone ∧ decodeTableWord 48 0x5AA503824F4B = some .writeAck ∧
      decodeTableWord 56 0x5AA50483001603 = some (.readReq 0x0016#16 3#8) := by decide

/-! ### Single steps from spec/95_test_vectors.md -/

/-- K1: `INIT n=1`, `INIT n=17`, `INIT n=16`. -/
theorem test_init_refused :
    seen (exec (.init 1 0#32 0#32) State.reset) (·.answer) = some (some ⟨.invalidArg, none⟩) ∧
      seen (exec (.init 17 0#32 0#32) State.reset) (·.answer) = some (some ⟨.allocFail, none⟩) := by decide
theorem test_init_accepted :
    seen (exec (.init 16 100#32 50#32) { State.reset with xpAnswers := [true] }) (fun t => (t.link, t.cfgN, t.outs)) =
      some (.operational, 16, [.xpRxStart 16]) := by decide

/-- X5: the second magic byte starts the frame at this tick. -/
theorem test_tick_second_magic :
    seen (exec (.tick 7#32) { holding [0xA5#8] with rxHdr1 := true }) (fun t => (t.rxState, t.rxHdr1, t.rxStartTick, t.rbTail)) =
      some (.waitingLength, false, 7#32, 0) := by decide

/-- R260, R262: the last byte of an acknowledgement, the deadline not reached. -/
theorem test_tick_acknowledgement :
    seen (exec (.tick 6#32) { holding [0x4B#8] with
        rxState := .waitingData, rxExpected := 2#8, rxReceived := 1#8, txState := .awaitingWriteAck
        rxFb := [(2, 0x03#8), (3, 0x82#8), (4, 0x4F#8)] }) (fun t => (t.txState, t.rxState, t.outs)) =
      some (.writeAckReceived, .waitingHeader, [.frameDone 0x82#8 2#8]) := by decide

/-- E13, and T1: six values do not fit `TX_CAP = 16`. -/
theorem test_writeVp :
    seen (exec (.writeVp 0x2000#16 [0xABCD#16] 9#32) ready) (fun t => (t.txState, t.txSendTick, t.outs)) =
      some (.sendingWrite, 9#32, [.xpTxStart [0x5A#8, 0xA5#8, 0x05#8, 0x82#8, 0x20#8, 0x00#8, 0xAB#8, 0xCD#8]]) := by decide
theorem test_writeVp_too_long :
    seen (exec (.writeVp 1#16 (List.replicate 6 0#16) 0#32) ready) (fun t => (t.answer, t.outs)) =
      some (some ⟨.invalidArg, none⟩, []) := by decide

/-- S2, and T2: a refused hand-off. -/
theorem test_readVp :
    seen (exec (.readVp 0x0016#16 3#8 20#32) ready) (fun t => (t.txState, t.outs)) =
      some (.sendingRead, [.xpTxStart [0x5A#8, 0xA5#8, 0x04#8, 0x83#8, 0x00#8, 0x16#8, 0x03#8]]) := by decide
theorem test_readVp_refused :
    seen (exec (.readVp 0x0010#16 1#8 9#32) { ready with xpAnswers := [false] }) (fun t => (t.answer, t.txState, t.txSendTick)) =
      some (some ⟨.xportErr, none⟩, .idle, 0#32) := by decide

/-- CB1: the third registration of a table of two. -/
theorem test_registerCb_capacity :
    seen (exec (.registerCb 0x0030#16 1) { ready with cbs := [⟨0x0016#16, 7⟩, ⟨0x0020#16, 9⟩] }) (fun t => (t.answer, t.cbN)) =
      some (some ⟨.capacity, none⟩, 2) := by decide

/-- T11: idle before `INIT`. -/
theorem test_isIdle : seen (exec .isIdle State.reset) (·.answer) = some (some ⟨.ok, some true⟩) := by decide

/-- RB7 and RB12: out of range, and before `INIT`. -/
theorem test_rbWrite_ignored :
    seen (exec (.rbWrite 8 0xFF#8) ready) (·.rbMem) = some [] ∧
      seen (exec (.rbWrite 0 0x5A#8) State.reset) (·.rbMem) = some [] := by decide
theorem test_rbWrite_sorted :
    seen (exec (.rbWrite 1 0x22#8) { ready with rbMem := [(0, 0x11#8), (2, 0x33#8)] }) (·.rbMem) =
      some [(0, 0x11#8), (1, 0x22#8), (2, 0x33#8)] := by decide

/-- RB2, RB4, RB5, RB10. -/
theorem test_rxProgress_overflow :
    seen (exec (.rxProgress 7) (ringAt (-1) (-1))) (fun t => (t.rbHead, t.rbOvf)) = some (7, false) ∧
      seen (exec (.rxProgress 7) (ringAt 6 7)) (fun t => (t.rbHead, t.rbOvf, t.rbUnread)) = some (7, true, 0) := by decide
theorem test_rxProgress_lap :
    seen (exec (.rxProgress 1) (ringAt 3 (-1))) (fun t => (t.rbHead, t.rbOvf, t.rbUnread)) = some (1, true, 2) ∧
      seen (exec (.rxProgress 1) (ringAt 2 1)) (fun t => (t.rbHead, t.rbOvf, t.rbUnread)) = some (1, true, 0) := by decide

/-- T3 and P1 line 5. -/
theorem test_txDone :
    seen (exec .txDone ready) (·.txState) = some .idle ∧
      seen (exec .txDone { ready with txState := .sendingWrite }) (·.txState) = some .writeSendComplete := by decide

/-- K4 and K2. -/
theorem test_xportErr :
    seen (exec .xportErr ready) (·.link) = some .transportError ∧ seen (exec .xportErr State.reset) (·.link) = some .uninit := by
  decide

/-- The write request of E13 as an instruction: the same bytes leave the block. -/
theorem test_writeReq :
    seen (exec (.writeReq 0x05#8 0x2000#16 [0xAB#8, 0xCD#8]) ready) (fun t => (t.txState, t.outs)) =
      some (.sendingWrite, [.xpTxStart [0x5A#8, 0xA5#8, 0x05#8, 0x82#8, 0x20#8, 0x00#8, 0xAB#8, 0xCD#8]]) := by decide

/-- P1 line 6 in one step. -/
theorem test_writeAck :
    seen (exec .writeAck ready) (fun t => (t.rbHead, t.rbTail, t.rbMem)) =
      some (5, -1, [(0, 0x5A#8), (1, 0xA5#8), (2, 0x03#8), (3, 0x82#8), (4, 0x4F#8), (5, 0x4B#8)]) := by decide

/-- E16 as an instruction. -/
theorem test_readReq :
    seen (exec (.readReq 0xFFFF#16 255#8) ready) (fun t => (t.txState, t.outs)) =
      some (.sendingRead, [.xpTxStart [0x5A#8, 0xA5#8, 0x04#8, 0x83#8, 0xFF#8, 0xFF#8, 0xFF#8]]) := by decide

/-- The frame of T7 laid across the wrap of the ring. -/
theorem test_readReply_wraps :
    seen (exec (.readReply 0x03#8 [0x00#8, 0x16#8]) (ringAt 5 5)) (fun t => (t.rbHead, t.rbOvf, t.rbMem)) =
      some (3, false, [(0, 0x03#8), (1, 0x83#8), (2, 0x00#8), (3, 0x16#8), (6, 0x5A#8), (7, 0xA5#8)]) := by decide

/-- U1: a byte that was never written stops the tick. -/
theorem test_unwritten_byte_faults : exec (.tick 0#32) (ringAt 0 (-1)) = .fault (.unwrittenRingByte 0) := rfl

/-- An offered operation is taken from its port by the step. -/
theorem test_step_takes_the_offer :
    seen (step { ready with hostPort := [.serial [0x06#8], .serial [0x02#8]] }) (fun t => (t.hostPort, t.answer)) =
      some ([.serial [0x02#8]], some ⟨.ok, some true⟩) := by decide
theorem test_step_withFetchWord :
    seen (step (State.reset.withFetchWord 8 0x06)) (·.answer) = some (some ⟨.ok, some true⟩) := by decide

/-- R89: a tag of 12 bits reaches a block with `CB_TAG_W = 12` through its port; a code of the other port is reserved (R94). -/
theorem test_step_wide_tag :
    seen (step (State.offer { ready with params := { ready.params with cbTagW := 12 } } .host (.parallel (.registerCb 0x0016#16 0xABC))))
        (·.cbs) = some [⟨0x0016#16, 0xABC⟩] ∧
      decodeOffer .host (.parallel .txDone) = .reserved ∧ decodeOffer .host (.parallel .writeAck) = .bad .noSuchFrame := by decide

/-! ### Witnesses: the hypotheses of each obligation can be met -/

theorem witness_ResetInputTakesNoOperation :
    ({ ready with rst := true, hostPort := [.serial [0x06#8]] } : State).rst = true := rfl

theorem witness_StepRunsTheOfferedInstruction :
    (ready.offer .host (.serial [0x06#8])).rst = false ∧ (ready.offer .host (.serial [0x06#8])).granted = some .host ∧
      (ready.offer .host (.serial [0x06#8])).offers .host = .serial [0x06#8] :: [] ∧ decode .host [0x06#8] = .instr .isIdle := by decide
theorem witness_StepRunsTheOfferedInstruction_xport :
    (ready.offer .xport (.parallel (.rxProgress 70000))).rst = false ∧
      (ready.offer .xport (.parallel (.rxProgress 70000))).granted = some .xport ∧
      (ready.offer .xport (.parallel (.rxProgress 70000))).offers .xport = .parallel (.rxProgress 70000) :: [] ∧
      (Instr.rxProgress 70000).port = .xport := by decide

theorem witness_BothOrdersAreAdmitted :
    ({ ready with hostPort := [.serial [0x06#8]], xportPort := [.parallel .txDone] } : State).hostPort = .serial [0x06#8] :: [] ∧
      ({ ready with hostPort := [.serial [0x06#8]], xportPort := [.parallel .txDone] } : State).xportPort = .parallel .txDone :: [] :=
  ⟨rfl, rfl⟩

theorem witness_NothingOfferedChangesNothing :
    State.reset.rst = false ∧ State.reset.hostPort = [] ∧ State.reset.xportPort = [] := by decide

theorem witness_ReservedCodesChangeNothing_host :
    (∀ op ∈ [0x00#8, 0x07#8, 0x0F#8], op.toNat < 16 ∧ (op.toNat = 0 ∨ 7 ≤ op.toNat)) ∧
      (∀ o ∈ [.serial [0x07#8], .parallel .txDone], (ready.offer .host o).rst = false ∧
        (ready.offer .host o).granted = some .host ∧ (ready.offer .host o).hostPort = o :: []) ∧
      Instr.txDone.isFrame = false ∧ Instr.txDone.port = .xport := by decide
theorem witness_ReservedCodesChangeNothing_xport :
    (∀ op ∈ [0x00#8, 0x07#8, 0x0C#8, 0x0F#8], op.toNat < 16 ∧ (op.toNat < 8 ∨ 12 ≤ op.toNat)) ∧
      (∀ o ∈ [.serial [0x0C#8], .parallel .isIdle], (ready.offer .xport o).rst = false ∧
        (ready.offer .xport o).granted = some .xport ∧ (ready.offer .xport o).xportPort = o :: []) ∧
      Instr.isIdle.isFrame = false ∧ Instr.isIdle.port = .host := by decide

theorem witness_DecodeGivesBackWhatIsEncoded :
    (Instr.init 65535 0#32 0#32).wf = true ∧ (Instr.writeVp 0#16 [] 0#32).wf = true ∧
      (Instr.writeReq 0xFF#8 0#16 (List.replicate 252 0#8)).wf = true ∧ (Instr.readReply 0x00#8 (List.replicate 255 0#8)).wf = true ∧
      (Instr.readReply 0x01#8 []).wf = true := by
  simp only [Instr.wf, writeReqLawful, dataCount, List.length_replicate]; decide

theorem witness_DecodedBytesAreTheEncoding : decode .xport [0x0A#8, 0xFF#8] = .instr .txDone := by decide

theorem witness_RbWriteStoresExactlyOneByte :
    (State.reset.link = .uninit ∨ State.reset.cfgN ≤ 0) ∧ (ready.link = .uninit ∨ ready.cfgN ≤ 8) ∧
      (ready.link ≠ .uninit ∧ 7 < ready.cfgN) ∧ (ready.link ≠ .uninit ∧ 0 < ready.cfgN) := by decide

theorem witness_RxProgressRecordsHeadAndOverflow :
    (State.reset.link = .uninit ∨ State.reset.cfgN ≤ 0) ∧ (ready.link = .uninit ∨ ready.cfgN ≤ 8) ∧
      (ready.link ≠ .uninit ∧ 7 < ready.cfgN) := by decide

theorem witness_UnreadCountByCases :
    (ready.link ≠ .uninit ∧ ready.CfgInv ∧ ready.RingInv ∧ ready.rbHead = -1) ∧
      ((ringAt 7 (-1)).link ≠ .uninit ∧ (ringAt 7 (-1)).CfgInv ∧ (ringAt 7 (-1)).RingInv ∧ 0 ≤ (ringAt 7 (-1)).rbHead ∧
        (ringAt 7 (-1)).rbTail = -1) ∧
      ((ringAt 0 7).link ≠ .uninit ∧ (ringAt 0 7).CfgInv ∧ (ringAt 0 7).RingInv ∧ 0 ≤ (ringAt 0 7).rbHead ∧
        0 ≤ (ringAt 0 7).rbTail) := by decide

theorem witness_PopAdvancesAndYields :
    ready.rbTail = ready.rbHead ∧
      ((holding [0x5A#8]).rbTail ≠ (holding [0x5A#8]).rbHead ∧
        (holding [0x5A#8]).rbMem.read (((holding [0x5A#8]).rbTail + 1) % ((holding [0x5A#8]).cfgN : Int)).toNat = some 0x5A#8) := by decide

theorem witness_FirstLapReturnsTheBytesInOrder :
    ({ ready with cfgN := 2 } : State).link ≠ .uninit ∧ 2 ≤ ({ ready with cfgN := 2 } : State).cfgN ∧ ready.rbHead = -1 ∧
      ready.rbTail = -1 ∧ ready.rbOvf = false ∧ [0x00#8, 0x01#8].length = ({ ready with cfgN := 2 } : State).cfgN := by decide

theorem witness_RingIndicesStayInRange : ready.Inv ∧ step ready = .next ready ∧ ready.link ≠ .uninit :=
  ⟨by decide, rfl, by decide⟩

theorem witness_ReceivedFrameLandsInTheRing :
    ((Instr.writeAck = .writeAck ∧ State.reset.link = .uninit) ∧ (ready.link ≠ .uninit ∧ 0 < ready.cfgN)) ∧
      [0x5A#8, 0xA5#8, 0x02#8, 0x83#8] ++ [0x01#8] = [0x5A#8, 0xA5#8, 0x02#8, 0x83#8, 0x01#8] ∧ 6 ≤ ready.cfgN ∧
      (∀ j : Nat, j < 6 → 7 ≠ (((-1 : Int) + 1 + (j : Int)) % (8 : Int)).toNat) := by decide

theorem witness_TickDetectsTheHeader :
    ∀ b ∈ [0x5A#8, 0xA5#8, 0x00#8], ∀ hdr ∈ [true, false],
      ({ holding [b] with rxHdr1 := hdr } : State).link = .operational ∧
        ({ holding [b] with rxHdr1 := hdr } : State).rxState = .waitingHeader ∧
        ({ holding [b] with rxHdr1 := hdr } : State).rbTail ≠ ({ holding [b] with rxHdr1 := hdr } : State).rbHead ∧
        ({ holding [b] with rxHdr1 := hdr } : State).rbMem.read ({ holding [b] with rxHdr1 := hdr } : State).nextTail.toNat = some b := by
  decide

theorem witness_TickStoresLengthAndFunctionCode :
    ∀ x ∈ [RxState.waitingLength, .waitingFunctionCode],
      ({ holding [0x82#8] with rxState := x, rxFb := [(2, 0x00#8)] } : State).link = .operational ∧
        ({ holding [0x82#8] with rxState := x, rxFb := [(2, 0x00#8)] } : State).rbTail ≠ (holding [0x82#8]).rbHead ∧
        (holding [0x82#8]).rbMem.read (holding [0x82#8]).nextTail.toNat = some 0x82#8 ∧
        ({ holding [0x82#8] with rxState := x, rxFb := [(2, 0x00#8)] } : State).rxFb.read 2 = some 0x00#8 := by decide

/-- In the middle of the data of a frame. -/
def awaiting (expected received : Byte) : State :=
  { holding [0x4B#8] with rxState := .waitingData, rxExpected := expected, rxReceived := received }

/-- The last byte of two, the first byte beyond the buffer, the last byte of the longest frame. -/
theorem witness_TickStoresOrDropsDataByte :
    (awaiting 2#8 1#8).link = .operational ∧ (awaiting 2#8 1#8).rxState = .waitingData ∧
      (awaiting 2#8 1#8).rxReceived ≠ (awaiting 2#8 1#8).rxExpected ∧ (awaiting 255#8 12#8).rxReceived ≠ (awaiting 255#8 12#8).rxExpected ∧
      (awaiting 255#8 254#8).rxReceived ≠ (awaiting 255#8 254#8).rxExpected ∧ (awaiting 2#8 1#8).rbTail ≠ (awaiting 2#8 1#8).rbHead ∧
      (awaiting 2#8 1#8).rbMem.read (awaiting 2#8 1#8).nextTail.toNat = some 0x4B#8 := by decide
theorem witness_TickStoresOrDropsDataByte_slots :
    4 + (11#8).toNat < ready.params.rxCap ∧ ready.params.rxCap ≤ 4 + (12#8).toNat ∧ (1#8 + 1#8 : Byte) = 2#8 := by decide

theorem witness_FrameWithoutDataTakesNoByte :
    ({ ready with rxState := .waitingData } : State).link = .operational ∧
      ({ ready with rxState := .waitingData } : State).rxReceived = 0#8 ∧
      ({ ready with rxState := .waitingData } : State).rxExpected = 0#8 := by decide

/-- X4: elapsed 50 and 51 against `cfg_rx_timeout = 50`. -/
theorem witness_TickWithAnEmptyRingJudgesOnlyTheDeadline :
    ({ ready with rxState := .waitingLength } : State).rbTail = ({ ready with rxState := .waitingLength } : State).rbHead ∧
      ready.link = .operational ∧ ready.cfgRxTimeout < 51#32 - ready.rxStartTick ∧
      ¬ ready.cfgRxTimeout < 50#32 - ready.rxStartTick ∧ ({ ready with rxHdr1 := true } : State).rxState = .waitingHeader := by decide

theorem witness_TickDoesAtMostOneOfEach : ∃ t, exec (.tick 1#32) ready = .next t := ⟨_, rfl⟩

theorem witness_ParserRebuildsEveryFrame :
    ready.rxState = .waitingHeader ∧ 7 ≤ ready.params.rxCap ∧ ([] : List Byte).length = dataCount 0x01#8 ∧
      (List.replicate 255 0x5A#8).length = dataCount 0x00#8 ∧ [0x4F#8, 0x4B#8].length = dataCount 0x03#8 := by
  simp only [dataCount, List.length_replicate]; decide

theorem witness_SpuriousBytesDoNotHideAHeader :
    ready.rxState = .waitingHeader ∧ noHeader ready.rxHdr1 [0x00#8, 0x5A#8, 0x00#8, 0x5A#8] = true ∧
      noHeader true [0x5A#8, 0x5A#8] = true := by decide

theorem witness_RxStateMovesOnlyByTheTable : ready.Inv ∧ ∃ t, exec (.tick 1#32) ready = .next t := ⟨by decide, _, rfl⟩

theorem witness_WriteVpBuildsSendsAndRefuses :
    State.reset.link ≠ .operational ∧
      (ready.link = .operational ∧ ({ ready with txState := .sendingRead } : State).txState ≠ .idle) ∧
      (ready.link = .operational ∧ ready.txState = .idle) ∧ ¬ (6 ≠ 0 ∧ 6 ≤ 126 ∧ 2 * 6 + 6 ≤ ready.params.txCap) ∧
      ¬ ((0 : Nat) ≠ 0 ∧ 0 ≤ 126 ∧ 2 * 0 + 6 ≤ ready.params.txCap) ∧ (5 ≠ 0 ∧ 5 ≤ 126 ∧ 2 * 5 + 6 ≤ ready.params.txCap) ∧
      ready.nextAnswer = true ∧ ({ ready with xpAnswers := [false] } : State).nextAnswer = false := by decide

theorem witness_ReadVpBuildsSendsAndRefuses :
    State.reset.link ≠ .operational ∧
      (ready.link = .operational ∧ ({ ready with txState := .sendingRead } : State).txState ≠ .idle) ∧
      (ready.link = .operational ∧ ready.txState = .idle) ∧ (255#8 : Byte) ≠ 0#8 ∧ (1#8 : Byte) ≠ 0#8 ∧
      ready.nextAnswer = true ∧ ({ ready with xpAnswers := [false] } : State).nextAnswer = false := by decide

theorem witness_RefusedHandOffMayBeRepeated :
    ([0x0001#16].length ≠ 0 ∧ [0x0001#16].length ≤ 126 ∧ 2 * [0x0001#16].length + 6 ≤ ready.params.txCap) ∧ (1#8 : Byte) ≠ 0#8 ∧
      ({ ready with xpAnswers := [false, true] } : State).link = .operational ∧
      ({ ready with xpAnswers := [false, true] } : State).txState = .idle ∧
      ({ ready with xpAnswers := [false, true] } : State).nextAnswer = false ∧
      ({ ready with xpAnswers := [false, true] } : State).popAnswer.nextAnswer = true := by decide

theorem witness_OfferedWriteFrameReadsBack :
    ready.link = .operational ∧ ready.txState = .idle ∧ (List.replicate 5 0x0001#16).length ≠ 0 ∧
      (List.replicate 5 0x0001#16).length ≤ 126 ∧ 2 * (List.replicate 5 0x0001#16).length + 6 ≤ ready.params.txCap := by decide

theorem witness_WriteReqSendsItsOwnBytes :
    State.reset.link ≠ .operational ∧ ({ ready with txState := .sendingRead } : State).txState ≠ .idle ∧
      ready.link = .operational ∧ ready.txState = .idle ∧
      ((Instr.writeReq 0x0D#8 1#16 (List.replicate 10 0#8)).wf = true ∧ (List.replicate 10 0#8).length + 6 ≤ ready.params.txCap) ∧
      (Instr.writeReq 0x0C#8 1#16 (List.replicate 10 0#8)).wf = false ∧ ready.params.txCap < (List.replicate 12 0#8).length + 6 ∧
      ready.drawFree.nextAnswer = true ∧ ({ ready with xpAnswers := [false] } : State).drawFree.nextAnswer = false := by decide

theorem witness_ReadReqSendsItsOwnBytes :
    State.reset.link ≠ .operational ∧ ({ ready with txState := .sendingRead } : State).txState ≠ .idle ∧
      ready.link = .operational ∧ ready.txState = .idle ∧ (255#8 : Byte) ≠ 0#8 ∧ ready.drawFree.nextAnswer = true ∧
      ({ ready with xpAnswers := [false] } : State).drawFree.nextAnswer = false := by decide

/-- The last byte of a read reply unread, its address watched by slot 1, a read just reported as sent: R196's own example. -/
def lastReplyByte : State :=
  { holding [0x03#8] with
    rxState := .waitingData, rxExpected := 3#8, rxReceived := 2#8, txState := .readSendComplete, txSendTick := 1000#32
    rxStartTick := 1090#32, rxFb := [(3, 0x83#8), (4, 0x00#8), (5, 0x16#8)], cbs := [⟨0x0020#16, 9⟩, ⟨0x0016#16, 7⟩] }

/-- S6: elapsed 99 and 100 against `cfg_tx_timeout = 100`, with a frame completed and without. -/
theorem witness_TickMovesTheTransactionInStepOrder :
    ready.link = .operational ∧ lastReplyByte.link = .operational ∧ ready.cfgTxTimeout ≤ 1100#32 - 1000#32 ∧
      ¬ ready.cfgTxTimeout ≤ 1099#32 - 1000#32 := by decide
theorem witness_TickMovesTheTransactionInStepOrder_quiet :
    seen (exec (.tick 1099#32) { ready with txState := .readSendComplete, txSendTick := 1000#32 }) (fun t => (t.outs, t.txState)) =
      some ([], .awaitingReadReply) := by decide
theorem witness_TickMovesTheTransactionInStepOrder_frame :
    seen (exec (.tick 1099#32) lastReplyByte) (fun t => (t.outs.head?, t.txState)) =
      some (some (.frameDone 0x83#8 3#8), .idle) := by decide

/-- X6 and T6: a complete frame of each class of R95; of a read reply, one watched by slot 1 only and one watched by nobody. -/
theorem witness_CompletedFrameIsRoutedByClass :
    (∀ m ∈ [[(3, 0x83#8)], [(3, 0x82#8), (4, 0x4F#8), (5, 0x4B#8)], [(3, 0x82#8), (4, 0x4E#8), (5, 0x4B#8)], [(3, 0x81#8)]],
      ({ ready with rxState := .dataReceived, rxFb := m, rxExpected := 2#8 } : State).rxState = .dataReceived) ∧
      ({ ready with rxFb := [(3, 0x83#8)], rxExpected := 2#8 } : State).rxByte 3 = 0x83#8 ∧ (2#8 : Byte).toNat < 3 ∧
      (3 ≤ (3#8 : Byte).toNat ∧ lastReplyByte.rxByte 3 = 0x83#8 ∧ (∀ c ∈ [⟨0x0020#16, 9⟩], CbSlot.addr c ≠ 0x0016#16)) ∧
      (lastReplyByte.cbs[1]? = some ⟨0x0016#16, 7⟩ ∧ lastReplyByte.rxByte 4 ++ lastReplyByte.rxByte 5 = 0x0016#16 ∧
        lastReplyByte.cbs[0]? = some ⟨0x0020#16, 9⟩) ∧
      ({ ready with rxFb := [(3, 0x82#8), (4, 0x4F#8), (5, 0x4B#8)] } : State).rxByte 3 = 0x82#8 ∧
      ({ ready with rxFb := [(3, 0x82#8), (4, 0x4F#8), (5, 0x4B#8)] } : State).rxByte 5 = 0x4B#8 ∧
      ({ ready with rxFb := [(3, 0x81#8)] } : State).rxByte 3 ≠ 0x83#8 := by decide

/-- The reply of `lastReplyByte` reaches slot 1 with an empty payload, in `SendingRead` too (R167 b), and nobody where none watches it; a tick
that completes nothing emits nothing. -/
theorem witness_TickAnnouncesAndDispatches :
    seen (exec (.tick 1099#32) { lastReplyByte with txState := .sendingRead }) (fun t => (t.outs, t.txState)) =
        some ([.frameDone 0x83#8 3#8, .cbFire 1 7 0x0016#16 0x03#8 0 []], .sendingRead) ∧
      seen (exec (.tick 1099#32) { lastReplyByte with cbs := [] }) (·.outs) = some [.frameDone 0x83#8 3#8] ∧
      seen (exec (.tick 1099#32) { lastReplyByte with rxReceived := 1#8 }) (·.outs) = some [] ∧
      lastReplyByte.rxState ≠ .dataReceived ∧ lastReplyByte.link = .operational := by decide

theorem witness_TxStateMovesOnlyByTheTable :
    ready.Inv ∧ (∃ t, exec .txDone { ready with txState := .sendingWrite } = .next t) ∧
      ({ ready with rst := true } : State).rst = true := ⟨by decide, ⟨_, rfl⟩, rfl⟩

/-- A write being sent, the ring of seven bytes empty at its end. -/
def sending : State := { ready with cfgN := 7, txState := .sendingWrite, rbHead := 6, rbTail := 6 }

theorem witness_AcknowledgedWriteClosesInSevenTicks :
    sending.Inv ∧ sending.link = .operational ∧ sending.txState = .sendingWrite ∧ sending.rxState = .waitingHeader ∧ sending.rbTail = sending.rbHead ∧ 7 ≤ sending.cfgN ∧
      (∀ now ∈ [1#32, 2#32, 3#32, 4#32, 5#32, 6#32], ¬ sending.cfgTxTimeout ≤ now - sending.txSendTick) ∧
      (∀ now ∈ [3#32, 4#32, 5#32, 6#32], ¬ sending.cfgRxTimeout < now - 2#32) := by
  refine ⟨by decide, rfl, rfl, rfl, rfl, by decide, ?_, ?_⟩ <;> simp [sending, ready, State.reset]

theorem witness_RegisterCbFillsTheNextSlot :
    State.reset.link ≠ .operational ∧
      (ready.link = .operational ∧ ({ ready with cbs := [⟨1#16, 1⟩, ⟨1#16, 2⟩] } : State).cbN = ready.params.cbCap) ∧
      (ready.link = .operational ∧ ({ ready with cbs := [⟨1#16, 1⟩] } : State).cbN ≠ ready.params.cbCap ∧
        255 < 2 ^ ready.params.cbTagW) := by decide

/-- CB2: two slots watch one address, and a frame of that address. -/
theorem witness_DispatchFiresTheFirstMatch :
    let s : State := { ready with
      cbs := [⟨0x0016#16, 7⟩, ⟨0x0016#16, 8⟩], rxExpected := 3#8, rxFb := [(4, 0x00#8), (5, 0x16#8), (6, 0x01#8)] }
    3 ≤ s.rxExpected.toNat ∧ s.cbs[0]? = some ⟨0x0016#16, 7⟩ ∧ (⟨0x0016#16, 7⟩ : CbSlot).addr = s.rxByte 4 ++ s.rxByte 5 ∧
      (∀ c ∈ ({ s with cbs := [⟨0x0099#16, 1⟩] } : State).cbs, c.addr ≠ s.rxByte 4 ++ s.rxByte 5) ∧ (2#8 : Byte).toNat < 3 := by
  decide
theorem witness_DispatchFiresTheFirstMatch_slotZero (cbs : List CbSlot) (a : VpAddr) :
    ∀ j d, j < 0 → cbs[j]? = some d → d.addr ≠ a := fun _ _ h => absurd h (Nat.not_lt_zero _)

/-- A read waiting for its reply, the ring empty at its end, and seven tick values. -/
def waiting : State := { ready with txState := .awaitingReadReply, rbHead := 7, rbTail := 7 }
def sevenTicks : List Tick := [1#32, 2#32, 3#32, 4#32, 5#32, 6#32, 7#32]

theorem witness_ReadReplyIsDelivered :
    waiting.Inv ∧ waiting.link = .operational ∧ waiting.txState = .awaitingReadReply ∧ waiting.rxState = .waitingHeader ∧ waiting.rbTail = waiting.rbHead ∧
      [0x00#8, 0x16#8, 0x00#8].length = dataCount 0x04#8 ∧ 1 ≤ [0x00#8, 0x16#8, 0x00#8].length ∧
      [0x00#8, 0x16#8, 0x00#8].length + 4 < waiting.cfgN ∧ sevenTicks.length = [0x00#8, 0x16#8, 0x00#8].length + 4 ∧
      (∀ now ∈ sevenTicks, ¬ waiting.cfgTxTimeout ≤ now - waiting.txSendTick) ∧
      sevenTicks[1]? = some 2#32 ∧ (∀ now ∈ sevenTicks.drop 2, ¬ waiting.cfgRxTimeout < now - 2#32) := by
  refine ⟨by decide, rfl, rfl, rfl, rfl, rfl, by decide, by decide, rfl, ?_, rfl, ?_⟩ <;>
    simp [sevenTicks, waiting, ready, State.reset]

theorem witness_InitConfiguresOrRefuses :
    ready.link ≠ .uninit ∧ (State.reset.link = .uninit ∧ 1 < 2) ∧ (2 ≤ 17 ∧ State.reset.params.rbMax < 17) ∧
      (2 ≤ 16 ∧ 16 ≤ State.reset.params.rbMax) ∧ ({ State.reset with xpAnswers := [true] } : State).nextAnswer = true ∧
      ({ State.reset with xpAnswers := [false] } : State).nextAnswer = false := by decide

theorem witness_XportErrChangesOnlyLink : ready.link = .operational ∧ State.reset.link ≠ .operational := by decide

/-- P4 lines 20 to 22: the three pairs of answers. -/
theorem witness_TickRecoversFromTransportError :
    let s : State := { ready with link := .transportError, txState := .sendingWrite, rbHead := 3, rbTail := 2 }
    s.link = .transportError ∧ ({ s with xpAnswers := [false] } : State).nextAnswer = false ∧
      ({ s with xpAnswers := [true, false] } : State).nextAnswer = true ∧
      ({ s with xpAnswers := [true, false] } : State).popAnswer.nextAnswer = false ∧ s.nextAnswer = true ∧
      s.popAnswer.nextAnswer = true := by decide

theorem witness_TickRunsToItsEnd :
    (ready.link = .operational ∧ ready.PopReady) ∧
      ((holding [0x5A#8]).link = .operational ∧ (holding [0x5A#8]).PopReady) := by decide

theorem witness_LinkStateGovernsOperations :
    (∃ t, exec (.tick 0#32) State.reset = .next t) ∧ State.reset.link = .uninit ∧ (∃ t, exec .txDone State.reset = .next t) ∧
      State.reset.Inv ∧ (∃ t, exec (.init 8 0#32 0#32) ready = .next t) ∧ ready.link ≠ .uninit ∧
      (∃ t, exec .xportErr { ready with link := .transportError } = .next t) ∧
      (∃ t, exec (.registerCb 0#16 0) ready = .next t) ∧ ready.link = .operational ∧ (Instr.registerCb 0#16 0).port = .host :=
  ⟨⟨_, rfl⟩, rfl, ⟨_, rfl⟩, by decide, ⟨_, rfl⟩, by decide, ⟨_, rfl⟩, ⟨_, rfl⟩, rfl, rfl⟩

theorem witness_ErrorResultsArePrecise :
    seen (exec (.readVp 1#16 0#8 0#32) ready) (·.answer) = some (some ⟨.invalidArg, none⟩) ∧
      seen (exec (.readVp 1#16 1#8 0#32) { ready with xpAnswers := [false] }) (·.answer) = some (some ⟨.xportErr, none⟩) ∧
      seen (exec (.tick 0#32) { ready with link := .transportError, xpAnswers := [false] }) (·.answer) =
        some (some ⟨.xportErr, none⟩) ∧
      seen (exec (.init 2 0#32 0#32) { State.reset with xpAnswers := [false] }) (·.answer) = some (some ⟨.xportErr, none⟩) := by decide

theorem witness_EachAgentWritesOnlyItsOwn :
    (∃ t, exec .xportErr ready = .next t) ∧ Instr.xportErr.port = .xport ∧ (∃ t, exec .isIdle ready = .next t) ∧
      Instr.isIdle.port = .host := ⟨⟨_, rfl⟩, rfl, ⟨_, rfl⟩, rfl⟩

theorem witness_ConfigurationAndTableOnlyGrow :
    (∃ t, step (ready.offer .host (.serial [0x05#8, 0x00#8, 0x16#8, 0x07#8])) = .next t) ∧
      (ready.offer .host (.serial [0x05#8, 0x00#8, 0x16#8, 0x07#8])).rst = false ∧
      (ready.offer .host (.serial [0x05#8, 0x00#8, 0x16#8, 0x07#8])).link ≠ .uninit := ⟨⟨_, rfl⟩, rfl, by decide⟩
theorem witness_ConfigurationAndTableOnlyGrow_uninit :
    (∃ t, step (State.reset.offer .host (.serial [0x06#8])) = .next t) ∧ (State.reset.offer .host (.serial [0x06#8])).link = .uninit ∧
      (State.reset.offer .host (.serial [0x06#8])).granted = some .host ∧
      decodeOffer .host ((State.reset.offer .host (.serial [0x06#8])).offered .host) = .instr .isIdle := ⟨⟨_, rfl⟩, by decide⟩

theorem witness_EveryStepKeepsTheInvariant :
    (holding [0x5A#8, 0xA5#8]).Inv ∧ ∃ t, step ((holding [0x5A#8, 0xA5#8]).offer .host (.serial [0x02#8, 0#8, 0#8, 0#8, 1#8])) = .next t :=
  ⟨by decide, _, rfl⟩

theorem witness_RegistersFitTheirWidths :
    (holding [0x5A#8, 0xA5#8]).Inv ∧ step (holding [0x5A#8, 0xA5#8]) = .next (holding [0x5A#8, 0xA5#8]) ∧
      (holding [0x5A#8, 0xA5#8]).link ≠ .uninit := ⟨by decide, rfl, by decide⟩

/-- A ring that holds bytes 0 and 1 and has published byte 0. -/
def halfPublished : State := { holding [0x5A#8, 0xA5#8] with rbHead := 0 }

/-- A dutiful progress report: index 1. -/
theorem witness_DutifulTransportNeverFaults :
    halfPublished.Inv ∧ halfPublished.Published ∧ (halfPublished.offer .xport (.serial [0x09#8, 0x00#8, 0x01#8])).granted = some .xport ∧
      decodeOffer .xport (.serial [0x09#8, 0x00#8, 0x01#8]) = .instr (.rxProgress 1) ∧
      ((halfPublished.offer .xport (.serial [0x09#8, 0x00#8, 0x01#8])).consume .xport).Covers 1 := by
  refine ⟨?_, ?_, ?_, ?_, ?_⟩ <;> decide

theorem witness_ReadableSlotsHaveBeenWritten :
    let s : State := { ready with rxState := .waitingData, rxExpected := 2#8, rxReceived := 1#8, rxFb := [(3, 0x82#8), (4, 0x4F#8)] }
    s.Inv ∧ s.RxWritten ∧ step s = .next s := ⟨by decide, by decide, rfl⟩

/-- Two states in `Uninit` that differ in every unspecified register. -/
theorem witness_UnspecifiedElementsAreNeverRead :
    State.reset.Inv ∧ State.reset.SameMeaning { State.reset with
      cfgN := 5, cfgTxTimeout := 1#32, cfgRxTimeout := 2#32, rxExpected := 3#8, rxReceived := 4#8, rxStartTick := 5#32
      txSendTick := 6#32, txLen := 7, rxFb := [(0, 1#8)], txFb := [(0, 1#8)] } :=
  ⟨by decide, rfl, fun h => absurd rfl h, fun h => absurd rfl h, fun h => absurd h (by decide), fun h => absurd h (by decide),
    fun h => absurd rfl h⟩

end Sys2Proof.Tests
end

section
/-! SUPPORT. The step as a whole: what serving a port leaves alone, the offer a step decodes, and the induction step of every invariant over
the block's elements. Settles the statements about which offer a step runs (R8, R9, R87 to R89, R220). -/

namespace Sys2Proof.Machine

/-! ### Serving a port (R9) -/

@[simp] theorem State.useGrant_offers (s : State) (p : Port) : s.useGrant.offers p = s.offers p := by
  unfold State.useGrant
  split
  · split <;> rfl
  · rfl

@[simp] theorem State.dropOffer_offers_same (s : State) (p : Port) : (s.dropOffer p).offers p = (s.offers p).tail := by
  cases p <;> rfl

/-- Serving a port takes its oldest offer. -/
theorem State.consume_offers_same (s : State) (p : Port) : (s.consume p).offers p = (s.offers p).tail := by
  simp [State.consume]

@[simp] theorem State.consume_block (s : State) (p : Port) : (s.consume p).block = s.block := by
  rw [State.consume_frame]; rfl

/-- A reserved code changes no element of the block (R94). -/
@[simp] theorem State.reservedCode_block (s : State) (p : Port) : (s.reservedCode p).block = s.block := by cases p <;> rfl

theorem State.offered_eq_of_offers {s : State} {p : Port} {o : Offer} {rest : List Offer} (h : s.offers p = o :: rest) :
    s.offered p = o := by simp [State.offered, h]

/-- The offer the step decodes is an instruction: the step is that instruction's meaning. -/
theorem step_eq_exec {s : State} {p : Port} {i : Instr} (hr : s.rst = false) (hg : s.granted = some p)
    (hd : decodeOffer p (s.offered p) = .instr i) : step s = exec i (s.consume p) := by
  simp [step, hr, hg, hd]

/-- With both agents offering, an arbitration uses up the grant that is next (R9). -/
theorem State.useGrant_contended {s : State} {g : Port} {gs : List Port} (hc : s.contended = true) (hg : s.grants = g :: gs) :
    s.useGrant = { s with grants := gs } := by
  simp [State.useGrant, hc, hg]

/-! ### Invariants over the block's elements -/

/-- A property of the block's elements that `rst` and every instruction keep is kept by every step. -/
theorem step_keeps {P : State → Prop} (hblock : ∀ s, P s.block ↔ P s) (hrst : ∀ s, P s → P s.applyRst)
    (hexec : ∀ i s t, P s → exec i s = .next t → P t) {s t : State} (h : step s = .next t) (hs : P s) : P t := by
  have same : ∀ {u v : State}, v.block = u.block → P u → P v := fun {u v} he hu =>
    (hblock v).1 (he ▸ (hblock u).2 hu)
  rcases step_cases s with ⟨_, he⟩ | ⟨_, _, he⟩ | ⟨p, _, _, ⟨i, _, he⟩ | ⟨_, he⟩ | ⟨e, _, he⟩⟩ <;> rw [he] at h
  · cases h; exact hrst s hs
  · cases h; exact hs
  · exact hexec i _ t (same (s.consume_block p) hs) h
  · cases h; exact same ((State.reservedCode_block _ p).trans (s.consume_block p)) hs
  · cases h

/-! ### The statements -/

/-- Settles O3: both forms of the offer decode to the instruction, and serving the port takes that offer and no block element. -/
theorem stepRunsTheOfferedInstruction : Obligations.StepRunsTheOfferedInstruction := by
  intro s p i o rest hr hg ho hform
  have hd : decodeOffer p (s.offered p) = .instr i := by
    rw [State.offered_eq_of_offers ho]
    obtain ⟨rfl, rfl⟩ | ⟨bytes, rfl, hb⟩ := hform
    · exact decodeOffer_parallel_own i
    · exact hb
  exact ⟨step_eq_exec hr hg hd, by rw [State.consume_offers_same, ho, List.tail_cons], s.consume_block p⟩

/-- Settles O4: with both ports offering, the first grant names the port served, and serving it uses up that grant and that offer. -/
theorem bothOrdersAreAdmitted : Obligations.BothOrdersAreAdmitted := by
  intro s h x hs xs gs hh hx
  have hc : ∀ g : Port, State.contended { s with grants := g :: gs } = true := fun g => by simp [State.contended, hh, hx]
  have hg : ∀ g : Port, State.granted { s with grants := g :: gs } = some g := fun g => by
    simp [State.granted, State.arbiter, hh, hx]
  have hu : ∀ g : Port, State.useGrant { s with grants := g :: gs } = { s with grants := gs } := fun g =>
    State.useGrant_contended (hc g) rfl
  refine ⟨hg .host, hg .xport, ?_, ?_⟩
  · rw [State.consume, hu]; simp [State.dropOffer, hh]
  · rw [State.consume, hu]; simp [State.dropOffer, hx]

end Sys2Proof.Machine
end

section
/-! SUPPORT. The registers whose width depends on a parameter (R12, R20): the few moves an instruction can make on them, the invariant that
bounds them, and the widths that follow. -/

namespace Sys2Proof.Machine

/-- The elements whose width depends on a parameter, `tx_len`, and what bounds them (the parameters and `link`), everything else as
after reset: `t.sizes = s.sizes` says that none of them differs. -/
def State.sizes (s : State) : State :=
  { State.reset with
    params := s.params
    link := s.link
    cfgN := s.cfgN
    rbHead := s.rbHead
    rbTail := s.rbTail
    txLen := s.txLen
    cbs := s.cbs }

/-- What one instruction can do to these elements. -/
inductive State.SizeMove : State → State → Prop
  /-- Nothing. -/
  | same (s : State) : SizeMove s s
  /-- A transport error is taken (R193). -/
  | error (s : State) : s.link ≠ .uninit → SizeMove s { s with link := .transportError }
  /-- A successful `INIT n` (R190). -/
  | configure (s : State) (n : Nat) : s.link = .uninit → 2 ≤ n → n ≤ s.params.rbMax →
      SizeMove s { s with link := .operational, cfgN := n, rbHead := -1, rbTail := -1 }
  /-- `recover()`, whether or not the transport accepts (R195). -/
  | recover (s : State) (l : Link) : s.link ≠ .uninit → l ≠ .uninit →
      SizeMove s { s with link := l, rbHead := -1, rbTail := -1 }
  /-- A progress report is recorded (R112). -/
  | publish (s : State) (idx : Nat) : s.link ≠ .uninit → idx < s.cfgN → SizeMove s { s with rbHead := (idx : Int) }
  /-- A byte is taken from the ring (R116). -/
  | pop (s : State) : s.link ≠ .uninit → s.rbTail ≠ s.rbHead → SizeMove s { s with rbTail := s.nextTail }
  /-- A frame of `n` bytes is built into `tx_fb` (R150, R155). -/
  | build (s : State) (n : Nat) : n ≤ s.params.txCap → n ≤ 258 → SizeMove s { s with txLen := n }
  /-- A callback slot is filled (R180). -/
  | register (s : State) (addr : VpAddr) (tag : Nat) : s.cbs.length ≠ s.params.cbCap →
      SizeMove s { s with cbs := s.cbs ++ [{ addr := addr, tag := tag % 2 ^ s.params.cbTagW }] }

/-! ### The shared operations -/

@[simp] theorem State.takeOp_sizes (s : State) : s.takeOp.sizes = s.sizes := rfl
@[simp] theorem State.reply_sizes (s : State) (c : Result) : (s.reply c).sizes = s.sizes := rfl
@[simp] theorem State.replyBit_sizes (s : State) (b : Bool) : (s.replyBit b).sizes = s.sizes := rfl
@[simp] theorem State.emit_sizes (s : State) (o : Output) : (s.emit o).sizes = s.sizes := rfl
@[simp] theorem State.drawFree_sizes (s : State) : s.drawFree.sizes = s.sizes := rfl
@[simp] theorem State.popAnswer_sizes (s : State) : s.popAnswer.sizes = s.sizes := by
  rw [State.popAnswer_eq]; rfl
@[simp] theorem State.wipe_sizes (s : State) : s.wipe.sizes = { s.sizes with rbHead := -1, rbTail := -1 } := rfl
@[simp] theorem State.buildTx_sizes (s : State) (frame : List Byte) :
    (s.buildTx frame).sizes = { s.sizes with txLen := frame.length } := rfl
@[simp] theorem State.configure_sizes (s : State) (n : Nat) (tx rx : Tick) :
    (s.configure n tx rx).sizes = { s.sizes with link := .operational, cfgN := n } := rfl
@[simp] theorem State.storeByte_sizes (s : State) (idx : Nat) (b : Byte) : (s.storeByte idx b).sizes = s.sizes := by
  rw [State.storeByte_frame]; rfl
@[simp] theorem State.tickTail_sizes (s : State) (now : Tick) : (s.tickTail now).sizes = s.sizes := by
  rw [State.tickTail_frame]; rfl

/-- `RX_PROGRESS` before `INIT` or out of range is ignored (R112). -/
theorem State.publish_ignored {s : State} {idx : Nat} (h : s.link = .uninit ∨ s.cfgN ≤ idx) : s.publish idx = s := if_pos h

theorem State.publish_sizeMove (s : State) (idx : Nat) : SizeMove s.sizes (s.publish idx).sizes := by
  by_cases h : s.link = .uninit ∨ s.cfgN ≤ idx
  · rw [State.publish_ignored h]; exact .same _
  · rw [not_or, not_le] at h
    rw [State.publish_taken h.1 h.2]; exact .publish _ idx h.1 h.2

/-- A received run of bytes moves the head once, however long it is (R101). -/
theorem State.receiveFrom_sizeMove (s : State) (h : Int) (bs : List Byte) : SizeMove s.sizes (s.receiveFrom h bs).sizes := by
  induction bs generalizing s h with
  | nil => exact s.publish_sizeMove _
  | cons b bs ih => simpa [State.receiveFrom] using ih (s.storeByte ((h + 1) % (s.cfgN : Int)).toNat b) (h + 1)

/-- A request with legal arguments builds its frame; any other leaves `tx_len` alone. -/
theorem State.request_sizeMove {s : State} {argsOk : Bool} {frame : List Byte} {sending : TxState} {now : Tick}
    (hf : argsOk = true → frame.length ≤ s.params.txCap ∧ frame.length ≤ 258) :
    SizeMove s.sizes (s.request argsOk frame sending now).sizes := by
  by_cases hl : s.link = .operational
  · by_cases hi : s.txState = .idle
    · cases argsOk with
      | false => rw [State.request_invalid hl hi]; exact .same _
      | true =>
        have hb : SizeMove s.sizes (s.buildTx frame).sizes := .build _ _ (hf rfl).1 (hf rfl).2
        have hp : ((s.buildTx frame).emit (.xpTxStart frame)).popAnswer.sizes = (s.buildTx frame).sizes := by simp
        rw [← hp] at hb
        rw [State.request_offered hl hi]
        dsimp only
        split <;> exact hb
    · rw [State.request_busy hl hi]; exact .same _
  · rw [State.request_notReady hl]; exact .same _

/-- `rx_step` moves the tail by one pop of a ring that is not empty, or not at all. -/
theorem State.rxStep_sizes {s t : State} {now : Tick} (h : s.rxStep now = .next t) :
    t.sizes = s.sizes ∨ (s.rbTail ≠ s.rbHead ∧ t.sizes = { s.sizes with rbTail := s.nextTail }) := by
  rcases State.rxStep_next h with ⟨_, rfl⟩ | ⟨_, _, rfl⟩ | ⟨_, _, rfl⟩ | ⟨_, hne, b, _, rfl⟩
  · exact .inl rfl
  · exact .inl rfl
  · exact .inl rfl
  · exact .inr ⟨hne, by rw [State.rxFeed_frame]; rfl⟩

theorem State.recover_sizes (s : State) :
    s.recover.2.sizes = { s.sizes with link := s.recover.2.link, rbHead := -1, rbTail := -1 } := by
  rw [State.recover_cases]
  split
  · simp [State.sizes]
  · split <;> simp [State.sizes]

theorem State.recover_link (s : State) : s.recover.2.link = s.link ∨ s.recover.2.link = .operational := by
  rw [State.recover_cases]
  split
  · simp
  · split <;> simp

/-- Recovery from a pending transport error, accepted or not. -/
theorem State.recover_sizeMove {s : State} (h : s.link = .transportError) : SizeMove s.sizes s.recover.2.sizes := by
  have hl : s.recover.2.link ≠ .uninit := by
    rcases s.recover_link with hk | hk <;> rw [hk]
    · rw [h]; decide
    · decide
  rw [State.recover_sizes]
  exact .recover _ _ (show s.link ≠ .uninit by rw [h]; decide) hl

/-! ### The frames a request builds (R81, R83) -/

theorem length_writeFrame (addr : VpAddr) (values : List Value) : (writeFrame addr values).length = 2 * values.length + 6 := by
  simp only [writeFrame, frameBytes, be16, List.length_cons, List.length_append, List.length_nil, length_flatMap_be16]
  omega

theorem length_readFrame (addr : VpAddr) (count : Byte) : (readFrame addr count).length = 7 := rfl

theorem length_bodyValues (body : List Byte) : (bodyValues body).length = body.length / 2 := by
  induction body using bodyValues.induct with
  | case1 h l r ih => simp only [bodyValues, List.length_cons, ih]; omega
  | case2 body hb =>
    match body, hb with
    | [], _ => rfl
    | [_], _ => simp [bodyValues]
    | h :: l :: r, hb => exact absurd rfl (hb h l r)

/-- A frame of a legal write fits the buffer and nine bits (R37, R151). -/
theorem writeFrame_fits {txCap : Nat} (addr : VpAddr) {values : List Value} (h : writeArgsOk txCap values.length = true) :
    (writeFrame addr values).length ≤ txCap ∧ (writeFrame addr values).length ≤ 258 := by
  simp only [writeArgsOk, Bool.and_eq_true, decide_eq_true_eq] at h
  rw [length_writeFrame]
  omega

theorem readFrame_fits {txCap : Nat} (addr : VpAddr) (count : Byte) (h : 7 ≤ txCap) :
    (readFrame addr count).length ≤ txCap ∧ (readFrame addr count).length ≤ 258 := ⟨h, by rw [length_readFrame]; decide⟩

/-! ### One instruction, one move -/

theorem execInit_sizeMove {n : Nat} {tx rx : Tick} {s t : State} (h : execInit n tx rx s = .next t) :
    State.SizeMove s.sizes t.sizes := by
  simp only [execInit, Host.Outcome.next.injEq] at h
  subst h
  split
  · exact .same _
  · next hl =>
    split
    · exact .same _
    · next h2 =>
      split
      · exact .same _
      · next hm =>
        split
        · simpa using State.SizeMove.configure s.sizes n (not_not.1 hl) (not_lt.1 h2) (not_lt.1 hm)
        · simpa using State.SizeMove.same s.sizes

theorem execTick_sizeMove {now : Tick} {s t : State} (h : exec (.tick now) s = .next t) : State.SizeMove s.sizes t.sizes := by
  rcases execTick_next h with ⟨_, rfl⟩ | ⟨he, _, rfl⟩ | ⟨s0, s1, hs, hx, rfl⟩
  · exact .same _
  · exact State.recover_sizeMove (s := s.takeOp) he
  · rw [State.reply_sizes, State.tickTail_sizes]
    rcases hs with ⟨hl, rfl⟩ | ⟨he, _, rfl⟩
    · rcases State.rxStep_sizes hx with h1 | ⟨hne, h1⟩ <;> rw [h1]
      · exact .same _
      · exact .pop s.sizes (show s.link ≠ .uninit by rw [hl]; decide) hne
    · obtain ⟨-, -, hh, ht, -⟩ := s.takeOp.recover_rest
      rcases State.rxStep_sizes hx with h1 | ⟨hne, -⟩
      · rw [h1]; exact State.recover_sizeMove (s := s.takeOp) he
      · exact absurd (ht.trans hh.symm) hne

theorem execRegisterCb_sizeMove {addr : VpAddr} {tag : Nat} {s t : State} (h : execRegisterCb addr tag s = .next t) :
    State.SizeMove s.sizes t.sizes := by
  simp only [execRegisterCb, Host.Outcome.next.injEq] at h
  subst h
  split
  · exact .same _
  · split
    · exact .same _
    · next hc => exact .register s.sizes addr tag hc

theorem State.enterError_sizeMove (s : State) : State.SizeMove s.sizes s.enterError.sizes := by
  unfold State.enterError
  split
  · next hl => exact .error s.sizes (show s.link ≠ .uninit by rw [hl]; decide)
  · exact .same _

/-- Every instruction makes one of the moves. -/
theorem exec_sizeMove {i : Instr} {s t : State} (hp : s.params.Ok) (h : exec i s = .next t) : State.SizeMove s.sizes t.sizes := by
  obtain ⟨-, -, hcap, -⟩ := hp
  cases i with
  | init n tx rx => exact execInit_sizeMove h
  | tick now => exact execTick_sizeMove h
  | writeVp addr values now => cases h; exact State.request_sizeMove (s := s.takeOp) (writeFrame_fits addr)
  | readVp addr count now => cases h; exact State.request_sizeMove (s := s.takeOp) fun _ => readFrame_fits addr count hcap
  | registerCb addr tag => exact execRegisterCb_sizeMove h
  | isIdle => cases h; exact .same _
  | rbWrite idx byte => cases h; rw [State.storeByte_sizes]; exact .same _
  | rxProgress idx => cases h; exact s.takeOp.publish_sizeMove idx
  | txDone => cases h; exact .same _
  | xportErr => cases h; exact s.takeOp.enterError_sizeMove
  | writeReq len addr body =>
    cases h
    refine State.request_sizeMove (s := s.takeOp.drawFree) fun ha => writeFrame_fits addr ?_
    rw [length_bodyValues]
    exact (Bool.and_eq_true_iff.1 ha).2
  | writeAck => cases h; exact s.takeOp.receiveFrom_sizeMove _ _
  | readReq addr count => cases h; exact State.request_sizeMove (s := s.takeOp.drawFree) fun _ => readFrame_fits addr count hcap
  | readReply len data => cases h; exact s.takeOp.receiveFrom_sizeMove _ _

/-! ### The bounds are kept -/

theorem State.SizeMove.params {s t : State} (h : SizeMove s t) : t.params = s.params := by cases h <;> rfl

/-- R21 is kept. -/
theorem State.SizeMove.cfgInv {s t : State} (h : SizeMove s t) (hs : s.CfgInv) : t.CfgInv := by
  cases h with
  | same | publish | pop | build | register => exact hs
  | error hl | recover _ hl => exact fun _ => hs hl
  | configure n _ h2 hm => exact fun _ => ⟨h2, hm⟩

/-- The index the next pop reads lies in the ring. -/
theorem State.nextTail_range {s : State} (h : 2 ≤ s.cfgN) : 0 ≤ s.nextTail ∧ s.nextTail < (s.cfgN : Int) :=
  ⟨Int.emod_nonneg _ (by omega), Int.emod_lt_of_pos _ (by omega)⟩

/-- R27 is kept. -/
theorem State.SizeMove.ringInv {s t : State} (h : SizeMove s t) (hc : s.CfgInv) (hs : s.RingInv) : t.RingInv := by
  obtain ⟨hhead, htail, hunset, hlt⟩ := hs
  cases h with
  | same | build | register => exact ⟨hhead, htail, hunset, hlt⟩
  | error hl => exact ⟨hhead, htail, hunset, fun _ => hlt hl⟩
  | configure n | recover l => exact ⟨le_rfl, le_rfl, fun _ => rfl, fun _ => ⟨by dsimp only; omega, by dsimp only; omega⟩⟩
  | publish idx hl hi =>
    refine ⟨?_, htail, fun h => ?_, fun _ => ⟨?_, (hlt hl).2⟩⟩ <;> dsimp only at * <;> omega
  | pop hl hne =>
    obtain ⟨h0, h1⟩ := State.nextTail_range (hc hl).1
    refine ⟨hhead, by dsimp only; omega, fun h => ?_, fun _ => ⟨(hlt hl).1, h1⟩⟩
    exact absurd ((hunset h).trans h.symm) hne

/-- R37 is kept: `tx_len` stays in `0 .. min(TX_CAP, 258)`. -/
theorem State.SizeMove.txLen_le {s t : State} (h : SizeMove s t) (hs : s.txLen ≤ s.params.txCap ∧ s.txLen ≤ 258) :
    t.txLen ≤ t.params.txCap ∧ t.txLen ≤ 258 := by
  cases h with
  | same | error | configure | recover | publish | pop | register => exact hs
  | build n hcap hn => exact ⟨hcap, hn⟩

/-- R39 is kept. -/
theorem State.SizeMove.cbInv {s t : State} (h : SizeMove s t) (hs : s.CbInv) : t.CbInv := by
  obtain ⟨hlen, htag⟩ := hs
  cases h with
  | same | error | configure | recover | publish | pop | build => exact ⟨hlen, htag⟩
  | register addr tag hn =>
    refine ⟨by simp only [List.length_append, List.length_singleton]; omega, fun c hc => ?_⟩
    rcases List.mem_append.1 hc with hc | hc
    · exact htag c hc
    · rw [List.mem_singleton.1 hc]; exact Nat.mod_lt _ (Nat.two_pow_pos _)

/-- The part of `State.Inv` that bounds the registers whose width depends on a parameter, and `tx_len`. -/
def State.SizeInv (s : State) : Prop :=
  s.params.Ok ∧ s.CfgInv ∧ s.RingInv ∧ (s.txLen ≤ s.params.txCap ∧ s.txLen ≤ 258) ∧ s.CbInv

theorem State.Inv.sizeInv {s : State} (h : s.Inv) : s.SizeInv := by
  obtain ⟨hp, hc, hr, -, ⟨-, ht⟩, hcb, -, -⟩ := h
  exact ⟨hp, hc, hr, ht, hcb⟩

theorem State.SizeMove.sizeInv {s t : State} (h : SizeMove s t) (hs : s.SizeInv) : t.SizeInv := by
  obtain ⟨hp, hc, hr, ht, hcb⟩ := hs
  exact ⟨h.params ▸ hp, h.cfgInv hc, h.ringInv hc hr, h.txLen_le ht, h.cbInv hcb⟩

/-- `rst` leaves a state within the bounds (R48). -/
theorem State.sizeInv_applyRst {s : State} (hs : s.SizeInv) : s.applyRst.SizeInv :=
  ⟨hs.1, fun h => absurd rfl h, ⟨le_rfl, le_rfl, fun _ => rfl, fun h => absurd rfl h⟩, ⟨Nat.zero_le _, Nat.zero_le _⟩,
    Nat.zero_le _, List.forall_mem_nil _⟩

theorem exec_keeps_sizeInv {i : Instr} {s t : State} (hs : s.SizeInv) (h : exec i s = .next t) : t.SizeInv :=
  (exec_sizeMove hs.1 h).sizeInv (s := s.sizes) (t := t.sizes) hs

theorem step_keeps_sizeInv {s t : State} (hs : s.SizeInv) (h : step s = .next t) : t.SizeInv :=
  step_keeps (P := State.SizeInv) (fun _ => Iff.rfl) (fun _ => State.sizeInv_applyRst) (fun _ _ _ => exec_keeps_sizeInv) h hs

/-! ### The widths (R12, R20) -/

/-- `cfg_n` fits `IDX_W` bits, and `N <= 2^(IDX_W-1)` (R70). -/
theorem State.CfgInv.cfgN_fits {s : State} (h : s.CfgInv) (hl : s.link ≠ .uninit) :
    s.cfgN < 2 ^ s.params.idxW ∧ s.cfgN ≤ 2 ^ (s.params.idxW - 1) := by
  have hle : s.cfgN ≤ 2 ^ (s.params.idxW - 1) := (h hl).2.trans s.params.rbMax_le_idxW
  exact ⟨hle.trans_lt (Nat.pow_lt_pow_right (by decide) (Nat.lt_succ_self _)), hle⟩

/-- An index in `-1 .. N-1` fits a signed word whose positive half holds `N`. -/
theorem index_fits {x : Int} {n k : Nat} (hlo : -1 ≤ x) (hhi : x < (n : Int)) (hn : n ≤ 2 ^ k) :
    -(2 : Int) ^ k ≤ x ∧ x < (2 : Int) ^ k := by
  have hcast : (n : Int) ≤ (2 : Int) ^ k := by exact_mod_cast hn
  have hpos : (0 : Int) < 2 ^ k := by positivity
  omega

/-- Settles O56: the bounds of the invariant are kept by every step, and each is within its register's width. -/
theorem registersFitTheirWidths : Obligations.RegistersFitTheirWidths := by
  intro s t hs h
  obtain ⟨-, hc, ⟨hhead, htail, -, hlt⟩, ⟨-, htx⟩, hcbs, htag⟩ := step_keeps_sizeInv hs.sizeInv h
  refine ⟨fun hl => ?_, by omega, hcbs.trans_lt t.params.cbCap_lt_cbNW, htag⟩
  obtain ⟨hw, hN⟩ := hc.cfgN_fits hl
  obtain ⟨hh1, hh2⟩ := index_fits hhead (hlt hl).1 hN
  obtain ⟨ht1, ht2⟩ := index_fits htail (hlt hl).2 hN
  exact ⟨hw, hN, hh1, hh2, ht1, ht2⟩

end Sys2Proof.Machine
end

section
/-! SUPPORT. What one instruction can do to the block: the moves every instruction is one of, and the induction step of every invariant over
them. -/

namespace Sys2Proof.Machine

/-- What one instruction can do to the elements of the block. Answers, outputs and what stands outside the block are left aside: `exec_move`
speaks of `State.block`. -/
inductive State.Move : Instr → State → State → Prop
  /-- Nothing: a query, a refused or an ignored operation. -/
  | same {i : Instr} {s : State} : Move i s s
  /-- A successful `INIT` (R190). -/
  | configure {s : State} (n : Nat) (tx rx : Tick) : s.link = .uninit → 2 ≤ n → n ≤ s.params.rbMax →
      Move (.init n tx rx) s (s.wipe.configure n tx rx)
  /-- A `TICK` whose recovery the transport refuses (R195). -/
  | wipe {s : State} (now : Tick) : s.link = .transportError → Move (.tick now) s s.wipe
  /-- A `TICK` that runs to its end (R196). -/
  | tick {s : State} (s0 s1 : State) (now : Tick) : s.TickStarts s0 → s0.rxStep now = .next s1 → Move (.tick now) s (s1.tickTail now)
  /-- A request's frame is built, and the transport refuses it (R150, R155). -/
  | build {i : Instr} {s : State} (frame : List Byte) : (s.params.Ok → frame.length ≤ s.params.txCap) → Move i s (s.buildTx frame)
  /-- A request's frame is built and sent (R150, R155). -/
  | send {i : Instr} {s : State} (frame : List Byte) (sending : TxState) (now : Tick) :
      (s.params.Ok → frame.length ≤ s.params.txCap) → s.link = .operational → sending = .sendingWrite ∨ sending = .sendingRead →
      Move i s { s.buildTx frame with txSendTick := now, txState := sending }
  /-- A callback slot is filled (R180). -/
  | register {s : State} (addr : VpAddr) (tag : Nat) : s.link = .operational → Move (.registerCb addr tag) s (s.addCb addr tag)
  /-- `RB_WRITE` (R110). -/
  | store {s : State} (idx : Nat) (b : Byte) : Move (.rbWrite idx b) s (s.storeByte idx b)
  /-- `RX_PROGRESS` (R112). -/
  | publish {s : State} (idx : Nat) : Move (.rxProgress idx) s (s.publish idx)
  /-- `TX_DONE` (R158). -/
  | done {s : State} : Move .txDone s { s with txState := s.txState.done }
  /-- `XPORT_ERR` (R193). -/
  | error {s : State} : Move .xportErr s s.enterError
  /-- `RXBYTES` of at least one byte (R101). -/
  | receive {i : Instr} {s : State} (bs : List Byte) : i.port = .xport → bs ≠ [] → Move i s (s.receive bs)

/-- The instruction is one of the moves, up to what is no element of the block. -/
def State.MoveUpToBlock (i : Instr) (s t : State) : Prop := ∃ u v, u.block = s.block ∧ Move i u v ∧ t.block = v.block

/-! ### What the answers and outputs are is no element of the block -/

@[simp] theorem State.takeOp_block (s : State) : s.takeOp.block = s.block := rfl
@[simp] theorem State.reply_block (s : State) (c : Result) : (s.reply c).block = s.block := rfl
@[simp] theorem State.emit_block (s : State) (o : Output) : (s.emit o).block = s.block := rfl
@[simp] theorem State.popAnswer_block (s : State) : s.popAnswer.block = s.block := by rw [State.popAnswer_eq]; rfl

@[simp] theorem State.wipe_block (s : State) : s.wipe.block = s.block.wipe := rfl
@[simp] theorem State.configure_block (s : State) (n : Nat) (tx rx : Tick) : (s.configure n tx rx).block = s.block.configure n tx rx := rfl

/-- A property of the block's elements holds of every state with the same elements. -/
theorem State.of_block_eq {P : State → Prop} (hP : ∀ s, P s.block ↔ P s) {u v : State} (h : u.block = v.block) (hv : P v) : P u :=
  (hP u).1 (h ▸ (hP v).2 hv)

/-! ### One instruction, one move -/

/-- A request builds its frame only if its arguments are legal, and opens a transaction only if the transport accepts. -/
theorem State.request_move (i : Instr) {s u : State} {argsOk : Bool} {frame : List Byte} {sending : TxState} {now : Tick}
    (hu : u.block = s.block) (hf : argsOk = true → u.params.Ok → frame.length ≤ u.params.txCap)
    (hs : sending = .sendingWrite ∨ sending = .sendingRead) : MoveUpToBlock i s (u.request argsOk frame sending now) := by
  by_cases hl : u.link = .operational
  · by_cases hi : u.txState = .idle
    · cases argsOk with
      | false => rw [State.request_invalid hl hi]; exact ⟨u, u, hu, .same, rfl⟩
      | true =>
        rw [State.request_offered hl hi, State.popAnswer_eq]
        dsimp only
        split
        · exact ⟨u, _, hu, .send frame sending now (hf rfl) hl hs, rfl⟩
        · exact ⟨u, _, hu, .build frame (hf rfl), rfl⟩
    · rw [State.request_busy hl hi]; exact ⟨u, u, hu, .same, rfl⟩
  · rw [State.request_notReady hl]; exact ⟨u, u, hu, .same, rfl⟩

/-! #### `INIT`, test by test (R190) -/

theorem execInit_busy {n : Nat} {tx rx : Tick} {s : State} (hl : s.link ≠ .uninit) :
    exec (.init n tx rx) s = .next (s.takeOp.reply .busy) := congrArg Host.Outcome.next (if_pos hl)

theorem execInit_invalidArg {n : Nat} {tx rx : Tick} {s : State} (hl : s.link = .uninit) (hn : n < 2) :
    exec (.init n tx rx) s = .next (s.takeOp.reply .invalidArg) :=
  congrArg Host.Outcome.next ((if_neg (not_not.2 hl)).trans (if_pos hn))

theorem execInit_allocFail {n : Nat} {tx rx : Tick} {s : State} (hl : s.link = .uninit) (hn : 2 ≤ n) (hm : s.params.rbMax < n) :
    exec (.init n tx rx) s = .next (s.takeOp.reply .allocFail) :=
  congrArg Host.Outcome.next ((if_neg (not_not.2 hl)).trans ((if_neg (not_lt.2 hn)).trans (if_pos hm)))

/-- The capacity is legal: the transport is asked, and decides. -/
theorem execInit_offered {n : Nat} {tx rx : Tick} {s : State} (hl : s.link = .uninit) (hn : 2 ≤ n) (hm : n ≤ s.params.rbMax) :
    exec (.init n tx rx) s = .next (
      if s.nextAnswer = true then ((s.takeOp.emit (.xpRxStart n)).popAnswer.wipe.configure n tx rx).reply .ok
      else (s.takeOp.emit (.xpRxStart n)).popAnswer.reply .xportErr) :=
  congrArg Host.Outcome.next ((if_neg (not_not.2 hl)).trans ((if_neg (not_lt.2 hn)).trans (if_neg (not_lt.2 hm))))

theorem execInit_move {n : Nat} {tx rx : Tick} {s t : State} (h : exec (.init n tx rx) s = .next t) :
    State.MoveUpToBlock (.init n tx rx) s t := by
  by_cases hl : s.link = .uninit
  · by_cases hn : 2 ≤ n
    · by_cases hm : n ≤ s.params.rbMax
      · rw [execInit_offered hl hn hm] at h
        rw [← Host.Outcome.next.inj h]
        split
        · exact ⟨s, _, rfl, .configure n tx rx hl hn hm, by simp⟩
        · exact ⟨s, s, rfl, .same, by simp⟩
      · rw [execInit_allocFail hl hn (not_le.1 hm)] at h; cases h; exact ⟨s, s, rfl, .same, rfl⟩
    · rw [execInit_invalidArg hl (not_le.1 hn)] at h; cases h; exact ⟨s, s, rfl, .same, rfl⟩
  · rw [execInit_busy hl] at h; cases h; exact ⟨s, s, rfl, .same, rfl⟩

/-- `recover()` does the resets, and on success nothing more but to leave the error state (R195). -/
theorem State.recover_block (s : State) :
    s.recover.2.block = if s.recover.1 = true then State.block { s.wipe with link := .operational } else s.wipe.block := by
  cases h1 : s.nextAnswer with
  | false => rw [State.recover_abortRefused h1, State.popAnswer_eq]; rfl
  | true =>
    cases h2 : s.popAnswer.nextAnswer with
    | false => rw [State.recover_startRefused h1 h2, State.popAnswer_eq, State.popAnswer_eq]; rfl
    | true => rw [State.recover_accepted h1 h2, State.popAnswer_eq, State.popAnswer_eq]; rfl

/-- The state in which step 2 of a `TICK` begins is operational, and is the state before or that state reset by recovery. -/
theorem State.TickStarts.block {s s0 : State} (h : s.TickStarts s0) :
    (s.link = .operational ∧ s0.block = s.block) ∨
      (s.link = .transportError ∧ s0.block = State.block { s.wipe with link := .operational }) := by
  rcases h with ⟨hl, rfl⟩ | ⟨hl, ha, rfl⟩
  · exact .inl ⟨hl, rfl⟩
  · refine .inr ⟨hl, ?_⟩
    rw [State.recover_block, if_pos ha]; rfl

theorem execTick_move {now : Tick} {s t : State} (h : exec (.tick now) s = .next t) : State.MoveUpToBlock (.tick now) s t := by
  rcases execTick_next h with ⟨_, rfl⟩ | ⟨hl, hr, rfl⟩ | ⟨s0, s1, hs, hx, rfl⟩
  · exact ⟨s, s, rfl, .same, rfl⟩
  · refine ⟨s, s.wipe, rfl, .wipe now hl, ?_⟩
    rw [State.reply_block, State.recover_block, if_neg (by simp [hr])]; rfl
  · exact ⟨s, _, rfl, .tick s0 s1 now hs hx, State.reply_block _ _⟩

/-! #### `REGISTER_CB`, test by test (R180) -/

theorem execRegisterCb_notReady {addr : VpAddr} {tag : Nat} {s : State} (hl : s.link ≠ .operational) :
    exec (.registerCb addr tag) s = .next (s.takeOp.reply .notReady) := congrArg Host.Outcome.next (if_pos hl)

theorem execRegisterCb_capacity {addr : VpAddr} {tag : Nat} {s : State} (hl : s.link = .operational) (hc : s.cbN = s.params.cbCap) :
    exec (.registerCb addr tag) s = .next (s.takeOp.reply .capacity) :=
  congrArg Host.Outcome.next ((if_neg (not_not.2 hl)).trans (if_pos hc))

theorem execRegisterCb_ok {addr : VpAddr} {tag : Nat} {s : State} (hl : s.link = .operational) (hc : s.cbN ≠ s.params.cbCap) :
    exec (.registerCb addr tag) s = .next ((s.takeOp.addCb addr tag).reply .ok) :=
  congrArg Host.Outcome.next ((if_neg (not_not.2 hl)).trans (if_neg hc))

theorem execRegisterCb_move {addr : VpAddr} {tag : Nat} {s t : State} (h : exec (.registerCb addr tag) s = .next t) :
    State.MoveUpToBlock (.registerCb addr tag) s t := by
  by_cases hl : s.link = .operational
  · by_cases hc : s.cbN = s.params.cbCap
    · rw [execRegisterCb_capacity hl hc] at h; cases h; exact ⟨s, s, rfl, .same, rfl⟩
    · rw [execRegisterCb_ok hl hc] at h; cases h; exact ⟨s, _, rfl, .register addr tag hl, rfl⟩
  · rw [execRegisterCb_notReady hl] at h; cases h; exact ⟨s, s, rfl, .same, rfl⟩

/-- `WRITE_ACK` is the reception of its bytes (R82, R101). -/
theorem exec_writeAck (s : State) : exec .writeAck s = .next (s.takeOp.receive ackFrame) := rfl

/-- Every instruction makes one of the moves. -/
theorem exec_move {i : Instr} {s t : State} (h : exec i s = .next t) : State.MoveUpToBlock i s t := by
  cases i with
  | init n tx rx => exact execInit_move h
  | tick now => exact execTick_move h
  | writeVp addr values now =>
    cases h; exact State.request_move _ (s := s) (u := s.takeOp) rfl (fun ha _ => (writeFrame_fits addr ha).1) (.inl rfl)
  | readVp addr count now =>
    cases h; exact State.request_move _ (s := s) (u := s.takeOp) rfl (fun _ ⟨_, _, hcap, _⟩ => hcap) (.inr rfl)
  | registerCb addr tag => exact execRegisterCb_move h
  | isIdle => cases h; exact ⟨s, s, rfl, .same, rfl⟩
  | rbWrite idx b => cases h; exact ⟨s.takeOp, _, rfl, .store idx b, rfl⟩
  | rxProgress idx => cases h; exact ⟨s.takeOp, _, rfl, .publish idx, rfl⟩
  | txDone => cases h; exact ⟨s.takeOp, _, rfl, .done, rfl⟩
  | xportErr => cases h; exact ⟨s.takeOp, _, rfl, .error, rfl⟩
  | writeReq len addr body =>
    cases h
    refine State.request_move _ (s := s) (u := s.takeOp.drawFree) rfl (fun ha _ => (writeFrame_fits addr ?_).1) (.inl rfl)
    rw [length_bodyValues]
    exact (Bool.and_eq_true_iff.1 ha).2
  | writeAck =>
    rw [exec_writeAck] at h
    rw [← Host.Outcome.next.inj h]; exact ⟨s.takeOp, _, rfl, .receive ackFrame rfl nofun, rfl⟩
  | readReq addr count =>
    cases h; exact State.request_move _ (s := s) (u := s.takeOp.drawFree) rfl (fun _ ⟨_, _, hcap, _⟩ => hcap) (.inr rfl)
  | readReply len data => cases h; exact ⟨s.takeOp, _, rfl, .receive (frameBytes len 0x83#8 data) rfl nofun, rfl⟩

/-- What holds before an instruction (`P`) and after it (`Q`), both about the block's elements alone, is shown move by move. -/
theorem exec_of_move {P Q : State → Prop} (hP : ∀ s, P s.block ↔ P s) (hQ : ∀ s, Q s.block ↔ Q s) {i : Instr}
    (hmove : ∀ s t, P s → State.Move i s t → Q t) {s t : State} (h : exec i s = .next t) (hs : P s) : Q t := by
  obtain ⟨u, v, hu, hm, hv⟩ := exec_move h
  exact State.of_block_eq hQ hv (hmove u v (State.of_block_eq hP hu hs) hm)

end Sys2Proof.Machine
end

section
/-! SUPPORT. The legal values and invariants of `10_state.md` (R20 to R39): each is kept by every move. Settles the statements that they hold
at reset and after every step, and the statement of R27. -/

namespace Sys2Proof.Machine

/-! ### What the ticks' steps do to the parser and the transaction -/

/-- After steps 3 to 5 the parser waits for a header afresh, or it is left alone and holds no complete frame (R140, R196). -/
theorem State.tickTail_parser (s : State) (now : Tick) :
    ((s.tickTail now).rxState = .waitingHeader ∧ (s.tickTail now).rxHdr1 = false) ∨
      (s.rxState ≠ .dataReceived ∧ (s.tickTail now).rxState = s.rxState ∧ (s.tickTail now).rxHdr1 = s.rxHdr1) := by
  by_cases hd : s.rxState = .dataReceived
  · obtain ⟨h1, h2, -⟩ := State.tickTail_complete now hd
    exact .inl ⟨h1, h2⟩
  · rw [State.tickTail_incomplete now hd]
    by_cases he : s.rxState ≠ .waitingHeader ∧ s.cfgRxTimeout < elapsed now s.rxStartTick
    · exact .inl ⟨if_pos he, if_pos he⟩
    · exact .inr ⟨hd, if_neg he, if_neg he⟩

theorem TxState.latency_ne_readReplyReceived (t : TxState) : t.latency ≠ .readReplyReceived := by cases t <;> decide

/-- R162, R166: `ReadReplyReceived` is folded to `Idle` within the tick. -/
theorem State.tickTail_txState_ne (s : State) (now : Tick) : (s.tickTail now).txState ≠ .readReplyReceived := by
  have hl : s.txLatencyStep.txState ≠ .readReplyReceived := s.txState.latency_ne_readReplyReceived
  by_cases hd : s.rxState = .dataReceived
  · obtain ⟨-, -, -, ht⟩ := State.tickTail_complete now hd
    rw [ht]
    split
    · decide
    · obtain ⟨-, -, h | ⟨-, h, -⟩ | ⟨-, h, -⟩, -⟩ := State.completeFrame_complete (s := s.txLatencyStep) hd <;> rw [h]
      · exact hl
      · decide
      · decide
  · rw [State.tickTail_incomplete now hd]
    dsimp only
    split
    · decide
    · exact hl

/-- A property of the block's elements that recovery keeps holds where step 2 of a `TICK` begins. -/
theorem State.TickStarts.keeps {P : State → Prop} (hP : ∀ s, P s.block ↔ P s) {s s0 : State} (h : s.TickStarts s0)
    (hwipe : s.link = .transportError → P { s.wipe with link := .operational }) (hs : P s) : P s0 := by
  rcases h.block with ⟨-, he⟩ | ⟨hl, he⟩
  · exact State.of_block_eq hP he hs
  · exact State.of_block_eq hP he (hwipe hl)

theorem State.TickStarts.link {s s0 : State} (h : s.TickStarts s0) : s0.link = .operational := by
  rcases h.block with ⟨hl, he⟩ | ⟨-, he⟩
  · exact (congrArg State.link he).trans hl
  · exact congrArg State.link he

/-! ### The ring operations where they are ignored (R110, R112) -/

theorem State.storeByte_ignored {s : State} {idx : Nat} (b : Byte) (h : s.link = .uninit ∨ s.cfgN ≤ idx) : s.storeByte idx b = s :=
  if_pos h

theorem State.receiveFrom_uninit {s : State} (k : Int) (bs : List Byte) (h : s.link = .uninit) : s.receiveFrom k bs = s := by
  induction bs generalizing k with
  | nil => exact State.publish_ignored (.inl h)
  | cons b bs ih => rw [State.receiveFrom, State.storeByte_ignored b (.inl h), ih]

/-! ### The parser (R28, R29, R32) -/

/-- The part of `State.RxInv` that holds within a tick too, where a frame may be complete. -/
def State.RxMid (s : State) : Prop :=
  (s.rxHdr1 = true → s.rxState = .waitingHeader) ∧
    (s.rxState = .waitingData → s.rxReceived ≤ s.rxExpected ∧ (s.rxReceived = s.rxExpected → s.rxExpected = 0#8))

theorem State.RxMid.feedHeader {s : State} (b : Byte) (now : Tick) (hr : s.rxState = .waitingHeader) : (s.feedHeader b now).RxMid := by
  unfold State.feedHeader
  split
  · exact ⟨fun _ => hr, fun hd => absurd (hr.symm.trans hd) (by decide)⟩
  · split
    · exact ⟨nofun, nofun⟩
    · exact ⟨nofun, fun hd => absurd (hr.symm.trans hd) (by decide)⟩

/-- R130 keeps it: the counts begin at 0 and a byte is counted only while fewer than expected have come. -/
theorem State.RxMid.rxFeed {s : State} (b : Byte) (now : Tick) (hw : s.wantsByte = true) (hs : s.RxMid) : (s.rxFeed b now).RxMid := by
  obtain ⟨hh, hd⟩ := hs
  cases hr : s.rxState with
  | waitingHeader => rw [State.rxFeed_header b now hr]; exact .feedHeader b now hr
  | waitingLength =>
    rw [State.rxFeed_length b hr]; exact ⟨fun h1 => absurd ((hh h1).symm.trans hr) (by decide), nofun⟩
  | waitingFunctionCode =>
    rw [State.rxFeed_functionCode b hr]
    exact ⟨fun h1 => absurd ((hh h1).symm.trans hr) (by decide), fun _ => ⟨BitVec.le_def.2 (Nat.zero_le _), fun he => he.symm⟩⟩
  | waitingData =>
    have hne : s.rxReceived ≠ s.rxExpected := fun he => (State.wantsByte_iff.1 hw).2 ⟨hr, he⟩
    have hle : s.rxReceived + 1#8 ≤ s.rxExpected := by have := (hd hr).1; bv_omega
    rw [State.rxFeed_data b hr]
    refine ⟨fun h1 => absurd ((hh h1).symm.trans hr) (by decide), fun h => ⟨hle, fun he => ?_⟩⟩
    exact absurd ((if_pos he).symm.trans h) (by decide)
  | dataReceived => exact absurd hr (State.wantsByte_iff.1 hw).1

theorem State.RxMid.rxStep {s t : State} {now : Tick} (h : s.rxStep now = .next t) (hs : s.RxMid) : t.RxMid := by
  rcases State.rxStep_next h with ⟨_, rfl⟩ | ⟨hr, _, rfl⟩ | ⟨_, _, rfl⟩ | ⟨hw, _, b, _, rfl⟩
  · exact hs
  · exact ⟨fun h1 => absurd ((hs.1 h1).symm.trans hr) (by decide), nofun⟩
  · exact hs
  · exact State.RxMid.rxFeed (s := { s with rbTail := s.nextTail }) b now hw hs

theorem State.RxMid.tickTail {s : State} (now : Tick) (hs : s.RxMid) : (s.tickTail now).RxInv := by
  have hf : (s.tickTail now).rxReceived = s.rxReceived ∧ (s.tickTail now).rxExpected = s.rxExpected := by
    rw [State.tickTail_frame]; exact ⟨rfl, rfl⟩
  unfold State.RxInv
  rw [hf.1, hf.2]
  rcases s.tickTail_parser now with ⟨h1, h2⟩ | ⟨hd, h1, h2⟩ <;> rw [h1, h2]
  · exact ⟨by decide, nofun, nofun⟩
  · exact ⟨hd, hs⟩

theorem State.Move.rxInv {i : Instr} {s t : State} (h : Move i s t) (hs : s.RxInv) : t.RxInv := by
  have rest : ∀ u : State, u.rxState = .waitingHeader → u.rxHdr1 = false → u.RxInv := fun u h1 h2 => by
    unfold State.RxInv; rw [h1, h2]; exact ⟨by decide, nofun, nofun⟩
  cases h with
  | same | build | send | register | done => exact hs
  | configure | wipe => exact rest _ rfl rfl
  | tick s0 s1 now h0 hx =>
    have hm : s0.RxMid := (h0.keeps (P := State.RxInv) (fun _ => Iff.rfl) (fun _ => rest _ rfl rfl) hs).2
    exact (hm.rxStep hx).tickTail now
  | store idx b => rw [State.storeByte_frame]; exact hs
  | publish idx => rw [State.publish_frame]; exact hs
  | error => unfold State.enterError; split <;> exact hs
  | receive bs => rw [State.receive, State.receiveFrom_frame]; exact hs

/-! ### The transaction (R35) -/

theorem State.Move.txState_ne {i : Instr} {s t : State} (h : Move i s t) (hs : s.txState ≠ .readReplyReceived) :
    t.txState ≠ .readReplyReceived := by
  cases h with
  | same | build | register => exact hs
  | configure | wipe => exact nofun
  | tick s0 s1 now => exact s1.tickTail_txState_ne now
  | send frame sending now _ _ hsend => rcases hsend with rfl | rfl <;> exact nofun
  | store idx b => rw [State.storeByte_frame]; exact hs
  | publish idx => rw [State.publish_frame]; exact hs
  | done => show s.txState.done ≠ _; revert hs; cases s.txState <;> decide
  | error => unfold State.enterError; split <;> exact hs
  | receive bs => rw [State.receive, State.receiveFrom_frame]; exact hs

/-! ### The memories (R23, R30, R37) -/

theorem State.storeByte_memInv {s : State} (idx : Nat) (b : Byte) (hs : s.MemInv) : (s.storeByte idx b).MemInv := by
  obtain ⟨hb, hr, ht, hbN, hrN, htN⟩ := hs
  have h1 := State.wf_storeByte idx b hb
  have h2 := State.below_storeByte idx b hbN
  rw [State.storeByte_frame] at h1 h2 ⊢
  exact ⟨h1, hr, ht, h2, hrN, htN⟩

theorem State.receiveFrom_memInv {s : State} (k : Int) (bs : List Byte) (hs : s.MemInv) : (s.receiveFrom k bs).MemInv := by
  induction bs generalizing s k with
  | nil => unfold State.receiveFrom; rw [State.publish_frame]; exact hs
  | cons b bs ih => exact ih (k + 1) (State.storeByte_memInv _ b hs)

theorem State.buildTx_memInv {s : State} {frame : List Byte} (hf : frame.length ≤ s.params.txCap) (hs : s.MemInv) :
    (s.buildTx frame).MemInv := by
  obtain ⟨hb, hr, ht, hbN, hrN, htN⟩ := hs
  exact ⟨hb, hr, State.wf_buildTx frame ht, hbN, hrN, State.below_buildTx frame hf htN⟩

/-- One byte fed writes at most one slot of `rx_fb`, and one that exists (R132 to R135). -/
theorem State.rxFeed_rxFb {s : State} (b : Byte) (now : Tick) (hcap : 7 ≤ s.params.rxCap) :
    (s.rxFeed b now).rxFb = s.rxFb ∨ ∃ i < s.params.rxCap, (s.rxFeed b now).rxFb = s.rxFb.write i b := by
  cases hr : s.rxState with
  | waitingHeader =>
    rw [State.rxFeed_header b now hr]
    unfold State.feedHeader
    split
    · exact .inr ⟨0, by omega, rfl⟩
    · split
      · exact .inr ⟨1, by omega, rfl⟩
      · exact .inl rfl
  | waitingLength => rw [State.rxFeed_length b hr]; exact .inr ⟨2, by omega, rfl⟩
  | waitingFunctionCode => rw [State.rxFeed_functionCode b hr]; exact .inr ⟨3, by omega, rfl⟩
  | waitingData =>
    rw [State.rxFeed_data b hr]
    by_cases hc : 4 + s.rxReceived.toNat < s.params.rxCap
    · exact .inr ⟨_, hc, if_pos hc⟩
    · exact .inl (if_neg hc)
  | dataReceived => unfold State.rxFeed; rw [hr]; exact .inl rfl

theorem State.rxStep_memInv {s t : State} {now : Tick} (hcap : 7 ≤ s.params.rxCap) (h : s.rxStep now = .next t) (hs : s.MemInv) :
    t.MemInv := by
  obtain ⟨hb, hr, ht, hbN, hrN, htN⟩ := hs
  have hfb : t.rxFb.wf = true ∧ Memory.below s.params.rxCap t.rxFb = true := by
    rcases State.rxStep_next h with ⟨_, rfl⟩ | ⟨_, _, rfl⟩ | ⟨_, _, rfl⟩ | ⟨_, _, b, _, rfl⟩
    · exact ⟨hr, hrN⟩
    · exact ⟨hr, hrN⟩
    · exact ⟨hr, hrN⟩
    · rcases State.rxFeed_rxFb (s := { s with rbTail := s.nextTail }) b now hcap with he | ⟨i, hi, he⟩ <;> rw [he]
      · exact ⟨hr, hrN⟩
      · exact ⟨Memory.wf_write i b hr, Memory.below_write b hi hrN⟩
  rw [(State.rxStep_frame h).2]
  exact ⟨hb, hfb.1, ht, hbN, hfb.2, htN⟩

/-- `INIT` may change the ring's capacity only while the ring memory is blank. -/
theorem State.Move.memInv {i : Instr} {s t : State} (h : Move i s t) (hp : s.params.Ok) (hu : s.UninitInv) (hs : s.MemInv) :
    t.MemInv := by
  cases h with
  | same | wipe | register | done => exact hs
  | configure n tx rx hl =>
    obtain ⟨hb, hr, ht, -, hrN, htN⟩ := hs
    refine ⟨hb, hr, ht, ?_, hrN, htN⟩
    show Memory.below n s.rbMem = true
    rw [(hu hl).1]; rfl
  | tick s0 s1 now h0 hx =>
    obtain ⟨-, hcap, -⟩ := hp
    obtain ⟨hm0, hcap0⟩ := h0.keeps (P := fun u => u.MemInv ∧ 7 ≤ u.params.rxCap) (fun _ => Iff.rfl) (fun _ => ⟨hs, hcap⟩) ⟨hs, hcap⟩
    have hm1 := State.rxStep_memInv hcap0 hx hm0
    rw [State.tickTail_frame]
    exact hm1
  | build frame hf => exact State.buildTx_memInv (hf hp) hs
  | send frame sending now hf => exact State.buildTx_memInv (hf hp) hs
  | store idx b => exact State.storeByte_memInv idx b hs
  | publish idx => rw [State.publish_frame]; exact hs
  | error => unfold State.enterError; split <;> exact hs
  | receive bs => exact State.receiveFrom_memInv _ bs hs

/-! ### Before `INIT` (R48, R226, R242) -/

/-- A tick that runs to its end leaves the block operational. -/
theorem State.TickStarts.link_tickTail {s s0 s1 : State} {now : Tick} (h0 : s.TickStarts s0) (hx : s0.rxStep now = .next s1) :
    (s1.tickTail now).link = .operational := by
  rw [State.tickTail_frame]
  exact (congrArg State.link (State.rxStep_frame hx).2).trans h0.link

theorem State.Move.uninitInv {i : Instr} {s t : State} (h : Move i s t) (hs : s.UninitInv) : t.UninitInv := by
  cases h with
  | same | build => exact hs
  | configure => exact nofun
  | wipe now hl => exact fun h => absurd (hl.symm.trans h) (by decide)
  | tick s0 s1 now h0 hx => exact fun h => absurd ((h0.link_tickTail hx).symm.trans h) (by decide)
  | send frame sending now _ hl => exact fun h => absurd (hl.symm.trans h) (by decide)
  | register addr tag hl => exact fun h => absurd (hl.symm.trans h) (by decide)
  | store idx b =>
    intro h
    have hl : s.link = .uninit := by rw [State.storeByte_frame] at h; exact h
    rw [State.storeByte_ignored b (.inl hl)]; exact hs hl
  | publish idx =>
    intro h
    have hl : s.link = .uninit := by rw [State.publish_frame] at h; exact h
    rw [State.publish_ignored (.inl hl)]; exact hs hl
  | done =>
    intro hl
    obtain ⟨hmem, hhead, htail, hovf, hrx, hhdr, htx, hcbs⟩ := hs hl
    exact ⟨hmem, hhead, htail, hovf, hrx, hhdr, by show s.txState.done = _; rw [htx]; rfl, hcbs⟩
  | error =>
    unfold State.enterError
    split
    · exact nofun
    · exact hs
  | receive bs =>
    intro h
    have hl : s.link = .uninit := by rw [State.receive, State.receiveFrom_frame] at h; exact h
    rw [State.receive, State.receiveFrom_uninit _ bs hl]; exact hs hl

/-! ### The whole invariant -/

/-- The part of `State.Inv` beside `State.SizeInv`. -/
def State.ControlInv (s : State) : Prop := s.RxInv ∧ s.txState ≠ .readReplyReceived ∧ s.MemInv ∧ s.UninitInv

theorem State.inv_iff {s : State} : s.Inv ↔ s.SizeInv ∧ s.ControlInv :=
  ⟨fun ⟨hp, hc, hr, hrx, ⟨hne, htx⟩, hcb, hmem, hun⟩ => ⟨⟨hp, hc, hr, htx, hcb⟩, hrx, hne, hmem, hun⟩,
    fun ⟨⟨hp, hc, hr, htx, hcb⟩, hrx, hne, hmem, hun⟩ => ⟨hp, hc, hr, hrx, ⟨hne, htx⟩, hcb, hmem, hun⟩⟩

theorem State.Move.controlInv {i : Instr} {s t : State} (h : Move i s t) (hs : s.Inv) : t.ControlInv := by
  obtain ⟨hp, -, -, hrx, ⟨hne, -⟩, -, hmem, hun⟩ := hs
  exact ⟨h.rxInv hrx, h.txState_ne hne, h.memInv hp hun hmem, h.uninitInv hun⟩

theorem exec_keeps_inv {i : Instr} {s t : State} (hs : s.Inv) (h : exec i s = .next t) : t.Inv :=
  State.inv_iff.2 ⟨exec_keeps_sizeInv hs.sizeInv h, exec_of_move (P := State.Inv) (Q := State.ControlInv) (fun _ => Iff.rfl)
    (fun _ => Iff.rfl) (fun _ _ hu hm => hm.controlInv hu) h hs⟩

/-- `rst` leaves a state with the invariants (R48). -/
theorem State.inv_applyRst {s : State} (hs : s.Inv) : s.applyRst.Inv :=
  State.inv_iff.2 ⟨State.sizeInv_applyRst hs.sizeInv, ⟨nofun, nofun, nofun⟩, nofun, ⟨rfl, rfl, rfl, rfl, rfl, rfl⟩,
    fun _ => ⟨rfl, rfl, rfl, rfl, rfl, rfl, rfl, rfl⟩⟩

/-- Settles O51: `rst` and every move keep each part of the invariant. -/
theorem everyStepKeepsTheInvariant : Obligations.EveryStepKeepsTheInvariant := fun _ _ hs h =>
  step_keeps (P := State.Inv) (fun _ => Iff.rfl) (fun _ => State.inv_applyRst) (fun _ _ _ => exec_keeps_inv) h hs

/-! ### Reset (R48) -/

theorem State.inv_reset : State.reset.Inv := by decide

/-- Settles O1: `State.reset` lists the values of R48. -/
theorem resetGivesTheSpecifiedValues : Obligations.ResetGivesTheSpecifiedValues :=
  ⟨rfl, rfl, rfl, rfl, rfl, rfl, rfl, rfl⟩

/-- Settles O50: the ring is empty and the parser waits for a header, so nothing need have been written. -/
theorem invariantHoldsAtReset : Obligations.InvariantHoldsAtReset :=
  ⟨State.inv_reset, nofun, nofun, nofun⟩

/-! ### The ring indices (R27) -/

/-- Indices in range: no byte is unread exactly when they are equal. -/
theorem State.rbUnread_eq_zero_iff {s : State} (hl : s.link ≠ .uninit) (hs : s.RingInv) :
    s.rbUnread = 0 ↔ s.rbTail = s.rbHead := by
  obtain ⟨hhead, htail, hunset, hlt⟩ := hs
  obtain ⟨hh, ht⟩ := hlt hl
  unfold State.rbUnread
  by_cases h1 : s.rbHead = -1
  · simp [h1, hunset h1]
  · by_cases h2 : s.rbTail = -1
    · rw [if_neg h1, if_pos h2]; omega
    · have hmod : ∀ x : Int, -1 ≤ x → x ≠ -1 → x < (s.cfgN : Int) → x % (s.cfgN : Int) = x := fun x h3 h4 h5 =>
        Int.emod_eq_of_lt (by omega) h5
      rw [if_neg h1, if_neg h2, ← Int.emod_eq_emod_iff_emod_sub_eq_zero, hmod _ hhead h1 hh, hmod _ htail h2 ht, eq_comm]

/-- Settles O15: R27 is part of the invariant, which the step keeps. -/
theorem ringIndicesStayInRange : Obligations.RingIndicesStayInRange := by
  intro s t hs h hl
  obtain ⟨-, -, hr, -⟩ := everyStepKeepsTheInvariant s t hs h
  obtain ⟨hhead, htail, hunset, hlt⟩ := hr
  exact ⟨hhead, (hlt hl).1, htail, (hlt hl).2, hunset, State.rbUnread_eq_zero_iff hl ⟨hhead, htail, hunset, hlt⟩⟩

end Sys2Proof.Machine
end

section
/-! SUPPORT. Where an instruction stops (U1, R49), and the publication duty of the transport (R67): the unread bytes of the ring stay written.
Settles the statements about both. -/

namespace Sys2Proof.Machine

/-! ### The one stop (R49, R116) -/

theorem State.tickBody_fault {s : State} {now : Tick} {f : Fault} : s.tickBody now = .fault f ↔ s.rxStep now = .fault f := by
  unfold State.tickBody; split <;> simp_all

theorem State.tickBody_refused {s : State} {now : Tick} {r : Refusal} : s.tickBody now ≠ .refused r := by
  unfold State.tickBody
  split
  · exact nofun
  · exact nofun
  · next h => exact absurd h State.rxStep_refused

/-- A `TICK` stops only where step 2 of an operational block pops an unwritten byte; a recovered block has an empty ring. -/
theorem execTick_fault {s : State} {now : Tick} {f : Fault} :
    exec (.tick now) s = .fault f ↔ s.link = .operational ∧ s.wantsByte = true ∧ s.rbTail ≠ s.rbHead ∧
      s.rbMem.read s.nextTail.toNat = none ∧ f = .unwrittenRingByte s.nextTail.toNat := by
  cases hl : s.link with
  | uninit => rw [execTick_uninit hl]; exact iff_of_false nofun fun h => absurd h.1 (by decide)
  | transportError =>
    rw [execTick_error hl]
    refine iff_of_false ?_ fun h => absurd h.1 (by decide)
    split
    · obtain ⟨-, -, hh, ht, -⟩ := s.takeOp.recover_rest
      rw [State.tickBody_fault, State.rxStep_fault]
      exact fun h => h.2.1 (ht.trans hh.symm)
    · exact nofun
  | operational =>
    rw [execTick_operational hl, State.tickBody_fault, State.rxStep_fault]
    exact ⟨fun h => ⟨rfl, h⟩, fun h => h.2⟩

theorem execTick_refused {s : State} {now : Tick} {r : Refusal} : exec (.tick now) s ≠ .refused r := by
  cases hl : s.link with
  | uninit => rw [execTick_uninit hl]; exact nofun
  | transportError =>
    rw [execTick_error hl]
    split
    · exact State.tickBody_refused
    · exact nofun
  | operational => rw [execTick_operational hl]; exact State.tickBody_refused

/-- Every instruction but `TICK` answers a next state. -/
theorem exec_completes {i : Instr} (s : State) (h : ∀ now, i ≠ .tick now) : ∃ t, exec i s = .next t := by
  cases i with
  | tick now => exact absurd rfl (h now)
  | init | writeVp | readVp | registerCb | isIdle | rbWrite | rxProgress | txDone | xportErr | writeReq | writeAck | readReq
  | readReply => exact ⟨_, rfl⟩

theorem exec_refused {i : Instr} {s : State} {r : Refusal} : exec i s ≠ .refused r := by
  by_cases h : ∃ now, i = .tick now
  · obtain ⟨now, rfl⟩ := h; exact execTick_refused
  · obtain ⟨t, ht⟩ := exec_completes s (not_exists.1 h)
    rw [ht]; exact nofun

theorem exec_fault {i : Instr} {s : State} {f : Fault} :
    exec i s = .fault f ↔ (∃ now, i = .tick now) ∧ s.link = .operational ∧ s.wantsByte = true ∧ s.rbTail ≠ s.rbHead ∧
      s.rbMem.read s.nextTail.toNat = none ∧ f = .unwrittenRingByte s.nextTail.toNat := by
  by_cases h : ∃ now, i = .tick now
  · obtain ⟨now, rfl⟩ := h
    exact execTick_fault.trans ⟨fun h => ⟨⟨now, rfl⟩, h⟩, fun h => h.2⟩
  · obtain ⟨t, ht⟩ := exec_completes s (not_exists.1 h)
    rw [ht]; exact iff_of_false nofun fun hf => h hf.1

/-- Settles O45: only a `TICK` can stop, in step 2. -/
theorem onlyAnUnwrittenRingByteStopsAnInstruction : Obligations.OnlyAnUnwrittenRingByteStopsAnInstruction := by
  refine fun s i => ⟨fun _ => exec_refused, fun idx => exec_fault.trans ?_⟩
  constructor
  · rintro ⟨hi, hl, hw, hne, hread, hf⟩
    obtain rfl := Fault.unwrittenRingByte.inj hf
    exact ⟨hi, hl, hw, hne, rfl, hread⟩
  · rintro ⟨hi, hl, hw, hne, rfl, hread⟩
    exact ⟨hi, hl, hw, hne, hread, rfl⟩

/-! ### Indices modulo `N` (R70) -/

theorem emod_le_self {a : Int} (n : Nat) (h : 0 ≤ a) : a % (n : Int) ≤ a := by
  lift a to ℕ using h
  exact_mod_cast Nat.mod_le a n

theorem le_emod_of_lt {a : Int} {n : Nat} (h : a < (n : Int)) (hn : 0 < n) : a ≤ a % (n : Int) := by
  by_cases h0 : 0 ≤ a
  · rw [Int.emod_eq_of_lt h0 h]
  · have := Int.emod_nonneg a (b := (n : Int)) (by omega); omega

theorem emod_add_le {a b : Int} {n : Nat} (hn : 0 < n) : (a + b) % (n : Int) ≤ a % (n : Int) + b % (n : Int) := by
  have ha := Int.emod_nonneg a (b := (n : Int)) (by omega)
  have hb := Int.emod_nonneg b (b := (n : Int)) (by omega)
  rw [Int.add_emod]
  exact emod_le_self n (by omega)

/-! ### The unread count (R111) -/

theorem State.rbUnread_unset {s : State} (h : s.rbHead = -1) : s.rbUnread = 0 := if_pos h

theorem State.rbUnread_firstLap {s : State} (h : s.rbHead ≠ -1) (ht : s.rbTail = -1) : s.rbUnread = s.rbHead + 1 :=
  (if_neg h).trans (if_pos ht)

theorem State.rbUnread_laterLap {s : State} (h : s.rbHead ≠ -1) (ht : s.rbTail ≠ -1) :
    s.rbUnread = (s.rbHead - s.rbTail) % (s.cfgN : Int) := (if_neg h).trans (if_neg ht)

theorem State.rbAdvance_unset {s : State} (idx : Nat) (h : s.rbHead = -1) : s.rbAdvance idx = (idx : Int) + 1 := if_pos h

theorem State.rbAdvance_set {s : State} (idx : Nat) (h : s.rbHead ≠ -1) :
    s.rbAdvance idx = ((idx : Int) - s.rbHead) % (s.cfgN : Int) := if_neg h

theorem State.rbUnread_nonneg {s : State} (hN : 0 < s.cfgN) (hs : s.RingInv) : 0 ≤ s.rbUnread := by
  obtain ⟨hhead, -⟩ := hs
  by_cases h : s.rbHead = -1
  · rw [State.rbUnread_unset h]
  · by_cases ht : s.rbTail = -1
    · rw [State.rbUnread_firstLap h ht]; omega
    · rw [State.rbUnread_laterLap h ht]; exact Int.emod_nonneg _ (by omega)

/-- The head is the last unread byte: the unread count leads from the tail to it. -/
theorem State.tail_add_unread {s : State} (hs : s.RingInv) : s.rbTail + s.rbUnread ≡ s.rbHead [ZMOD (s.cfgN : Int)] := by
  obtain ⟨-, -, hunset, -⟩ := hs
  by_cases h : s.rbHead = -1
  · rw [State.rbUnread_unset h, hunset h, h]; rfl
  · by_cases ht : s.rbTail = -1
    · rw [State.rbUnread_firstLap h ht, ht, show -1 + (s.rbHead + 1) = s.rbHead by ring]
    · rw [State.rbUnread_laterLap h ht, Int.ModEq, Int.add_emod_emod, show s.rbTail + (s.rbHead - s.rbTail) = s.rbHead by ring]

/-- A progress report adds at most the bytes it declares (R112, R113). -/
theorem State.rbUnread_publish_le {s : State} {idx : Nat} (hidx : idx < s.cfgN) (hs : s.RingInv) :
    State.rbUnread { s with rbHead := (idx : Int) } ≤ s.rbUnread + s.rbAdvance idx := by
  obtain ⟨hhead, -, hunset, -⟩ := hs
  have hset : (idx : Int) ≠ -1 := by omega
  by_cases h : s.rbHead = -1
  · rw [State.rbUnread_firstLap (s := { s with rbHead := (idx : Int) }) hset (hunset h), State.rbUnread_unset h,
      State.rbAdvance_unset idx h]
    dsimp only
    omega
  · rw [State.rbAdvance_set idx h]
    by_cases ht : s.rbTail = -1
    · have hle := le_emod_of_lt (a := (idx : Int) - s.rbHead) (n := s.cfgN) (by omega) (by omega)
      rw [State.rbUnread_firstLap (s := { s with rbHead := (idx : Int) }) hset ht, State.rbUnread_firstLap h ht]
      dsimp only
      omega
    · rw [State.rbUnread_laterLap (s := { s with rbHead := (idx : Int) }) hset ht, State.rbUnread_laterLap h ht]
      dsimp only
      rw [show (idx : Int) - s.rbTail = s.rbHead - s.rbTail + (idx - s.rbHead) by ring]
      exact emod_add_le (by omega)

/-- A pop of a ring that is not empty takes one unread byte (R116). -/
theorem State.rbUnread_pop_lt {s : State} (hl : s.link ≠ .uninit) (hN : 2 ≤ s.cfgN) (hs : s.RingInv) (hne : s.rbTail ≠ s.rbHead) :
    State.rbUnread { s with rbTail := s.nextTail } < s.rbUnread := by
  have hpos : s.rbUnread ≠ 0 := mt (State.rbUnread_eq_zero_iff hl hs).1 hne
  have hnn := State.rbUnread_nonneg (by omega) hs
  obtain ⟨hhead, -, hunset, -⟩ := hs
  have hset : s.rbHead ≠ -1 := fun h => hne ((hunset h).trans h.symm)
  have hnext : s.nextTail ≠ -1 := by have := (State.nextTail_range hN).1; omega
  rw [State.rbUnread_laterLap (s := { s with rbTail := s.nextTail }) hset hnext]
  show (s.rbHead - (s.rbTail + 1) % _) % _ < _
  rw [Int.sub_emod_emod]
  by_cases ht : s.rbTail = -1
  · rw [State.rbUnread_firstLap hset ht] at hpos hnn ⊢
    rw [ht]
    have := emod_le_self s.cfgN (a := s.rbHead - (-1 + 1)) (by omega)
    omega
  · rw [State.rbUnread_laterLap hset ht] at hpos hnn ⊢
    have := emod_le_self s.cfgN (a := (s.rbHead - s.rbTail) % s.cfgN - 1) (by omega)
    rw [show s.rbHead - (s.rbTail + 1) = s.rbHead - s.rbTail - 1 by ring, ← Int.emod_sub_emod]
    omega

/-! ### The unread bytes stay written (R67) -/

theorem State.published_of_unset {s : State} (h : s.rbHead = -1) : s.Published := by
  intro k hk
  rw [State.rbUnread_unset h] at hk
  exact absurd hk (Nat.not_lt_zero k)

/-- A dutiful report: the bytes unread before it and the bytes it declares are all the bytes unread after it. -/
theorem State.publish_published {s : State} {idx : Nat} (hl : s.link ≠ .uninit) (hidx : idx < s.cfgN) (hr : s.RingInv)
    (hcov : s.Covers idx) (hs : s.Published) : (s.publish idx).Published := by
  rw [State.publish_taken hl hidx]
  intro k hk
  have hle := State.rbUnread_publish_le hidx hr
  have hnn := State.rbUnread_nonneg (by omega) hr
  by_cases hold : k < s.rbUnread.toNat
  · exact hs k hold
  · have hk' : k < (State.rbUnread { s with rbHead := (idx : Int) }).toNat := hk
    have hnew := hcov (k - s.rbUnread.toNat) (by omega)
    have hmod := (State.tail_add_unread hr).add_right (1 + (k - s.rbUnread))
    rw [show s.rbTail + s.rbUnread + (1 + (k - s.rbUnread)) = s.rbTail + 1 + (k : Int) by ring] at hmod
    rw [show s.rbHead + 1 + ((k - s.rbUnread.toNat : Nat) : Int) = s.rbHead + (1 + (k - s.rbUnread)) by omega] at hnew
    show (s.rbMem.read ((s.rbTail + 1 + (k : Int)) % _).toNat).isSome = true
    rw [hmod.eq]
    exact hnew

/-- A pop leaves the other unread bytes where they were. -/
theorem State.pop_published {s : State} (hl : s.link ≠ .uninit) (hN : 2 ≤ s.cfgN) (hr : s.RingInv) (hne : s.rbTail ≠ s.rbHead)
    (hs : s.Published) : State.Published { s with rbTail := s.nextTail } := by
  intro k hk
  have hlt := State.rbUnread_pop_lt hl hN hr hne
  have hnext := hs (k + 1) (by omega)
  show (s.rbMem.read (((s.rbTail + 1) % _ + 1 + (k : Int)) % _).toNat).isSome = true
  rw [add_assoc, Int.emod_add_emod, show s.rbTail + 1 + (1 + (k : Int)) = s.rbTail + 1 + ((k + 1 : Nat) : Int) by push_cast; ring]
  exact hnext

/-- What is written in the ring stays written (R110). -/
theorem State.isSome_storeByte {s : State} (idx : Nat) (b : Byte) {j : Nat} (h : (s.rbMem.read j).isSome = true) :
    ((s.storeByte idx b).rbMem.read j).isSome = true := by
  unfold State.storeByte
  split
  · exact h
  · exact Memory.isSome_write idx b h

theorem State.storeByte_published {s : State} (idx : Nat) (b : Byte) (hs : s.Published) : (s.storeByte idx b).Published := by
  intro k hk
  have hu := fun j => State.isSome_storeByte idx b (s := s) (j := j)
  rw [State.storeByte_frame] at hk hu ⊢
  exact hu _ (hs k hk)

/-- The last of `m` bytes after the head declares at most these `m` bytes (R101, R113). -/
theorem State.rbAdvance_le {s : State} {m : Nat} (hm : 0 < m) (hN : 0 < s.cfgN) :
    s.rbAdvance ((s.rbHead + m) % (s.cfgN : Int)).toNat ≤ m := by
  have hcast : (((s.rbHead + m) % (s.cfgN : Int)).toNat : Int) = (s.rbHead + m) % (s.cfgN : Int) :=
    Int.toNat_of_nonneg (Int.emod_nonneg _ (by omega))
  by_cases h : s.rbHead = -1
  · have := emod_le_self s.cfgN (a := -1 + (m : Int)) (by omega)
    rw [State.rbAdvance_unset _ h, hcast, h]
    omega
  · rw [State.rbAdvance_set _ h, hcast, Int.emod_sub_emod, add_sub_cancel_left]
    exact emod_le_self s.cfgN (by omega)

/-- The slots of the `m` bytes after the head have been written. -/
def State.StoredAfterHead (s : State) (m : Nat) : Prop :=
  ∀ k < m, (s.rbMem.read ((s.rbHead + 1 + (k : Int)) % (s.cfgN : Int)).toNat).isSome = true

/-- Storing the next byte of a run (R101). -/
theorem State.StoredAfterHead.store {s : State} {m : Nat} (b : Byte) (hl : s.link ≠ .uninit) (hN : 0 < s.cfgN)
    (hs : s.StoredAfterHead m) : (s.storeByte ((s.rbHead + m + 1) % (s.cfgN : Int)).toNat b).StoredAfterHead (m + 1) := by
  have hidx : ((s.rbHead + m + 1) % (s.cfgN : Int)).toNat < s.cfgN := by
    have := Int.emod_lt_of_pos (s.rbHead + m + 1) (b := (s.cfgN : Int)) (by omega); omega
  rw [State.storeByte_taken b hl hidx]
  intro k hk
  rcases Nat.lt_succ_iff_lt_or_eq.1 hk with hk | rfl
  · exact Memory.isSome_write _ b (hs k hk)
  · show ((s.rbMem.write _ b).read ((s.rbHead + 1 + (k : Int)) % _).toNat).isSome = true
    rw [add_right_comm, Memory.read_write_same]; rfl

/-- `RXBYTES` is dutiful: with the `m` bytes after the head stored, it stores the rest of the run and publishes what is stored. -/
theorem State.receiveFrom_published {s : State} (m : Nat) (bs : List Byte) (hm : 0 < m + bs.length) (hl : s.link ≠ .uninit) (hN : 0 < s.cfgN)
    (hr : s.RingInv) (hst : s.StoredAfterHead m) (hs : s.Published) : (s.receiveFrom (s.rbHead + m) bs).Published := by
  induction bs generalizing s m with
  | nil =>
    have hidx := Int.emod_lt_of_pos (s.rbHead + m) (b := (s.cfgN : Int)) (by omega)
    have hle := State.rbAdvance_le (s := s) (m := m) hm hN
    exact State.publish_published hl (by omega) hr (fun k hk => hst k (by omega)) hs
  | cons b bs ih =>
    have hst' := hst.store b hl hN
    have hs' := State.storeByte_published ((s.rbHead + m + 1) % (s.cfgN : Int)).toNat b hs
    have hf := s.storeByte_frame ((s.rbHead + m + 1) % (s.cfgN : Int)).toNat b
    rw [State.receiveFrom]
    generalize s.storeByte ((s.rbHead + m + 1) % (s.cfgN : Int)).toNat b = u at hst' hs' hf ⊢
    have hu := ih (s := u) (m + 1) (by omega) (by rw [hf]; exact hl) (by rw [hf]; exact hN) (by rw [hf]; exact hr) hst' hs'
    have hhead : u.rbHead = s.rbHead := by rw [hf]
    rw [hhead] at hu
    rwa [add_assoc]

theorem State.receive_published {s : State} {bs : List Byte} (hbs : bs ≠ []) (hc : s.CfgInv) (hr : s.RingInv) (hs : s.Published) :
    (s.receive bs).Published := by
  by_cases hl : s.link = .uninit
  · rw [State.receive, State.receiveFrom_uninit _ bs hl]; exact hs
  · have hN : 0 < s.cfgN := by have := hc hl; omega
    have hlen := List.length_pos_of_ne_nil hbs
    simpa [State.receive] using State.receiveFrom_published 0 bs (by omega) hl hN hr (fun k hk => absurd hk k.not_lt_zero) hs

theorem State.rxStep_published {s t : State} {now : Tick} (hl : s.link ≠ .uninit) (hc : s.CfgInv) (hr : s.RingInv)
    (h : s.rxStep now = .next t) (hs : s.Published) : t.Published := by
  rcases State.rxStep_next h with ⟨_, rfl⟩ | ⟨_, _, rfl⟩ | ⟨_, _, rfl⟩ | ⟨_, hne, b, _, rfl⟩
  · exact hs
  · exact hs
  · exact hs
  · rw [State.rxFeed_frame]
    exact State.pop_published hl (hc hl).1 hr hne hs

theorem State.Move.published {i : Instr} {s t : State} (h : Move i s t) (hc : s.CfgInv) (hr : s.RingInv) (hd : s.Dutiful i)
    (hs : s.Published) : t.Published := by
  cases h with
  | same | build | send | register | done => exact hs
  | configure | wipe => exact State.published_of_unset rfl
  | tick s0 s1 now h0 hx =>
    obtain ⟨hc0, hr0, hs0⟩ := h0.keeps (P := fun u => u.CfgInv ∧ u.RingInv ∧ u.Published) (fun _ => Iff.rfl)
      (fun hl => ⟨fun _ => hc (by rw [hl]; decide), ⟨le_rfl, le_rfl, fun _ => rfl, fun _ => ⟨by simp; omega, by simp; omega⟩⟩,
        State.published_of_unset rfl⟩) ⟨hc, hr, hs⟩
    have hs1 := State.rxStep_published (by rw [h0.link]; decide) hc0 hr0 hx hs0
    rw [State.tickTail_frame]
    exact hs1
  | store idx b => exact State.storeByte_published idx b hs
  | publish idx =>
    by_cases hl : s.link = .uninit ∨ s.cfgN ≤ idx
    · rw [State.publish_ignored hl]; exact hs
    · rw [not_or, not_le] at hl
      exact State.publish_published hl.1 hl.2 hr (hd hl.1 hl.2) hs
  | error => unfold State.enterError; split <;> exact hs
  | receive bs _ hbs => exact State.receive_published hbs hc hr hs

/-- What the duty asks is about elements of the block. -/
theorem State.dutiful_block (s : State) (i : Instr) : s.block.Dutiful i ↔ s.Dutiful i := by cases i <;> exact Iff.rfl

theorem exec_keeps_published {i : Instr} {s t : State} (hi : s.Inv) (hd : s.Dutiful i) (hs : s.Published)
    (h : exec i s = .next t) : t.Published := by
  obtain ⟨-, hc, hr, -⟩ := hi
  refine exec_of_move (P := fun u => (u.CfgInv ∧ u.RingInv) ∧ u.Dutiful i ∧ u.Published) (Q := State.Published)
    (fun u => and_congr Iff.rfl (and_congr (u.dutiful_block i) Iff.rfl)) (fun _ => Iff.rfl) ?_ h ⟨⟨hc, hr⟩, hd, hs⟩
  rintro u v ⟨⟨hc, hr⟩, hdu, hu⟩ hm
  exact hm.published hc hr hdu hu

/-- The byte the next pop reads is the first unread one. -/
theorem exec_ne_fault_of_published {i : Instr} {s : State} {f : Fault} (hi : s.Inv) (hs : s.Published) : exec i s ≠ .fault f := by
  intro h
  obtain ⟨-, hl, -, hne, hread, -⟩ := exec_fault.1 h
  obtain ⟨-, hc, hr, -⟩ := hi
  have hl : s.link ≠ .uninit := by rw [hl]; decide
  have hpos : s.rbUnread ≠ 0 := mt (State.rbUnread_eq_zero_iff hl hr).1 hne
  have hnn := State.rbUnread_nonneg (by have := hc hl; omega) hr
  have h0 : (s.rbMem.read s.nextTail.toNat).isSome = true := by
    have h := hs 0 (by omega)
    rwa [Int.natCast_zero, add_zero] at h
  rw [hread] at h0
  exact absurd h0 (by decide)

/-- Settles O52: each move keeps the unread bytes written, so step 2 of a `TICK` never finds an unwritten one. -/
theorem dutifulTransportNeverFaults : Obligations.DutifulTransportNeverFaults := by
  intro s hi hs hduty
  have served : ∀ p, (s.consume p).Inv ∧ (s.consume p).Published := fun p => by
    rw [State.consume_frame]; exact ⟨hi, hs⟩
  rcases step_cases s with ⟨_, he⟩ | ⟨_, _, he⟩ | ⟨p, _, hg, ⟨i, hdec, he⟩ | ⟨_, he⟩ | ⟨e, _, he⟩⟩ <;> rw [he]
  · exact ⟨nofun, fun t h => Host.Outcome.next.inj h ▸ State.published_of_unset rfl⟩
  · exact ⟨nofun, fun t h => Host.Outcome.next.inj h ▸ hs⟩
  · obtain ⟨hi', hs'⟩ := served p
    exact ⟨fun _ => exec_ne_fault_of_published hi' hs', fun t => exec_keeps_published hi' (hduty p i hg hdec) hs'⟩
  · refine ⟨nofun, fun t h => Host.Outcome.next.inj h ▸ ?_⟩
    obtain ⟨-, hs'⟩ := served p
    cases p <;> exact hs'
  · exact ⟨nofun, fun _ h => nomatch h⟩

end Sys2Proof.Machine
end

section
/-! SUPPORT. Which elements each agent writes (R44), and what only an `INIT` in `Uninit` changes (R21, R22, R39, R191). Settles the statements
about both. -/

namespace Sys2Proof.Machine

/-! ### The transport agent (R44, R8) -/

/-- What R44 lets an event of the transport agent do: `rb_mem`, `rb_head`, `rb_ovf`, two moves of `tx_state` and one of `link`. -/
def State.XportWrites (s t : State) : Prop :=
  t = { s with
    rbMem := t.rbMem, rbHead := t.rbHead, rbOvf := t.rbOvf, txState := t.txState, link := t.link
    answer := none, outs := [] } ∧
  (t.txState = s.txState ∨ (s.txState = .sendingWrite ∧ t.txState = .writeSendComplete) ∨
    (s.txState = .sendingRead ∧ t.txState = .readSendComplete)) ∧
  (t.link = s.link ∨ (s.link = .operational ∧ t.link = .transportError))

/-- An event that writes the ring only. -/
theorem State.XportWrites.of_ring {s t : State}
    (h : t = { s.takeOp with rbMem := t.rbMem, rbHead := t.rbHead, rbOvf := t.rbOvf }) : XportWrites s t := by
  have htx : t.txState = s.txState := by rw [h]; rfl
  have hl : t.link = s.link := by rw [h]; rfl
  refine ⟨?_, .inl htx, .inl hl⟩
  rw [htx, hl]; exact h

theorem State.receive_xportWrites (s : State) (bs : List Byte) : XportWrites s (s.takeOp.receive bs) :=
  .of_ring (s.takeOp.receiveFrom_frame _ bs)

theorem TxState.done_cases (t : TxState) :
    t.done = t ∨ (t = .sendingWrite ∧ t.done = .writeSendComplete) ∨ (t = .sendingRead ∧ t.done = .readSendComplete) := by
  cases t <;> decide

theorem State.enterError_cases (s : State) :
    s.enterError = s ∨ (s.link = .operational ∧ s.enterError = { s with link := .transportError }) := by
  unfold State.enterError
  split
  · next h => exact .inr ⟨h, rfl⟩
  · exact .inl rfl

theorem exec_xportWrites {i : Instr} {s t : State} (hp : i.port = .xport) (h : exec i s = .next t) : s.XportWrites t := by
  cases i with
  | init | tick | writeVp | readVp | registerCb | isIdle | writeReq | readReq => exact nomatch hp
  | rbWrite idx b =>
    cases h
    refine .of_ring ?_
    rw [State.storeByte_frame]
  | rxProgress idx =>
    cases h
    refine .of_ring ?_
    rw [State.publish_frame]
  | txDone => cases h; exact ⟨rfl, s.txState.done_cases, .inl rfl⟩
  | xportErr =>
    cases h
    rcases s.takeOp.enterError_cases with he | ⟨hl, he⟩ <;> rw [he]
    · exact ⟨rfl, .inl rfl, .inl rfl⟩
    · exact ⟨rfl, .inl rfl, .inr ⟨hl, rfl⟩⟩
  | writeAck =>
    rw [exec_writeAck] at h
    rw [← Host.Outcome.next.inj h]; exact s.receive_xportWrites ackFrame
  | readReply len data => cases h; exact s.receive_xportWrites _

/-! ### The host agent (R44) -/

/-- A host command's move never writes the ring memory. -/
theorem State.Move.rbMem_of_host {i : Instr} {s t : State} (h : Move i s t) (hp : i.port = .host) : t.rbMem = s.rbMem := by
  cases h with
  | same | build | send | register | configure | wipe => rfl
  | tick s0 s1 now h0 hx =>
    have hm0 : s0.rbMem = s.rbMem := h0.keeps (P := fun u => u.rbMem = s.rbMem) (fun _ => Iff.rfl) (fun _ => rfl) rfl
    have hm1 : s1.rbMem = s0.rbMem := by rw [(State.rxStep_frame hx).2]
    rw [State.tickTail_frame]
    exact hm1.trans hm0
  | store | publish | done | error => exact nomatch hp
  | receive _ hx => exact absurd (hp.symm.trans hx) (by decide)

theorem exec_rbMem_of_host {i : Instr} {s t : State} (hp : i.port = .host) (h : exec i s = .next t) : t.rbMem = s.rbMem :=
  exec_of_move (P := fun u => u.rbMem = s.rbMem) (Q := fun u => u.rbMem = s.rbMem) (fun _ => Iff.rfl) (fun _ => Iff.rfl)
    (fun _ _ hu hm => (hm.rbMem_of_host hp).trans hu) h rfl

/-- The elements a host command other than `INIT` and `TICK` may write: the transaction's and the callback table. -/
def State.HostWrites (s t : State) : Prop :=
  t.block = State.block { s with
    txState := t.txState, txSendTick := t.txSendTick, txFb := t.txFb, txLen := t.txLen, cbs := t.cbs }

theorem exec_hostWrites {i : Instr} {s t : State} (hp : i.port = .host) (hinit : ∀ n tx rx, i ≠ .init n tx rx)
    (htick : ∀ now, i ≠ .tick now) (h : exec i s = .next t) : s.HostWrites t := by
  cases i with
  | rbWrite | rxProgress | txDone | xportErr | writeAck | readReply => exact nomatch hp
  | init n tx rx => exact absurd rfl (hinit n tx rx)
  | tick now => exact absurd rfl (htick now)
  | writeVp | readVp | writeReq | readReq => cases h; unfold State.HostWrites; rw [State.request_frame]; rfl
  | isIdle => cases h; rfl
  | registerCb addr tag =>
    cases h
    unfold State.HostWrites
    split
    · rfl
    · split <;> rfl

/-- Settles O48: each port's instructions write only what R44 gives their agent. -/
theorem eachAgentWritesOnlyItsOwn : Obligations.EachAgentWritesOnlyItsOwn := fun _ _ _ h =>
  ⟨fun hp => exec_xportWrites hp h, fun hp => ⟨exec_rbMem_of_host hp h, fun hinit htick => exec_hostWrites hp hinit htick h⟩⟩

/-! ### The configuration, `link` and the callback table (R21, R22, R39) -/

/-- The parameters, the configuration, `link` and the callback table, everything else as after reset. -/
def State.setup (s : State) : State :=
  { State.reset with
    params := s.params
    cfgN := s.cfgN
    cfgTxTimeout := s.cfgTxTimeout
    cfgRxTimeout := s.cfgRxTimeout
    link := s.link
    cbs := s.cbs }

/-- What one instruction can do to these elements. -/
inductive State.SetupMove (i : Instr) : State → State → Prop
  /-- Nothing. -/
  | same (s : State) : SetupMove i s s
  /-- A successful `INIT` (R190). -/
  | configure (s : State) (n : Nat) (tx rx : Tick) : i = .init n tx rx → s.link = .uninit →
      SetupMove i s { s with cfgN := n, cfgTxTimeout := tx, cfgRxTimeout := rx, link := .operational }
  /-- An error is taken or recovered from (R193, R195). -/
  | link (s : State) (l : Link) : s.link ≠ .uninit → l ≠ .uninit → SetupMove i s { s with link := l }
  /-- A callback slot is filled (R180). -/
  | register (s : State) (c : CbSlot) : SetupMove i s { s with cbs := s.cbs ++ [c] }

theorem State.Move.setup {i : Instr} {s t : State} (h : Move i s t) : SetupMove i s.setup t.setup := by
  cases h with
  | same | build | send | done | wipe => exact .same _
  | configure n tx rx hl => exact .configure s.setup n tx rx rfl hl
  | tick s0 s1 now h0 hx =>
    have h1 : (s1.tickTail now).setup = s0.setup := by
      rw [State.tickTail_frame, (State.rxStep_frame hx).2]; rfl
    rw [h1]
    rcases h0.block with ⟨-, he⟩ | ⟨hl, he⟩
    · have hs : s0.setup = s.setup := show s0.block.setup = s.block.setup by rw [he]
      rw [hs]; exact .same _
    · have hs : s0.setup = { s.setup with link := .operational } :=
        show s0.block.setup = (State.block { s.wipe with link := .operational }).setup by rw [he]
      rw [hs]
      exact .link s.setup .operational (fun h => absurd (hl.symm.trans h) (by decide)) nofun
  | register addr tag => exact .register s.setup _
  | store idx b => rw [State.storeByte_frame]; exact .same _
  | publish idx => rw [State.publish_frame]; exact .same _
  | error =>
    rcases s.enterError_cases with he | ⟨hl, he⟩ <;> rw [he]
    · exact .same _
    · exact .link s.setup .transportError (fun h => absurd (hl.symm.trans h) (by decide)) nofun
  | receive bs => rw [State.receive, State.receiveFrom_frame]; exact .same _

theorem exec_setupMove {i : Instr} {s t : State} (h : exec i s = .next t) : State.SetupMove i s.setup t.setup :=
  exec_of_move (P := fun u => u.setup = s.setup) (Q := fun u => State.SetupMove i s.setup u.setup) (fun _ => Iff.rfl)
    (fun _ => Iff.rfl) (fun _ _ hu hm => hu ▸ hm.setup) h rfl

theorem State.SetupMove.params {i : Instr} {s t : State} (h : SetupMove i s t) : t.params = s.params := by cases h <;> rfl

/-- The callback table grows by at most one, `Uninit` is never entered, and where the block was initialised or `noInit` holds the
configuration is unchanged and `Uninit` is not left. -/
def State.OnlyGrows (noInit : Prop) (s t : State) : Prop :=
  (∃ added, t.cbs = s.cbs ++ added ∧ added.length ≤ 1) ∧
  (s.link ≠ .uninit → t.link ≠ .uninit) ∧
  (s.link ≠ .uninit ∨ noInit →
    t.cfgN = s.cfgN ∧ t.cfgTxTimeout = s.cfgTxTimeout ∧ t.cfgRxTimeout = s.cfgRxTimeout ∧ (s.link = .uninit → t.link = .uninit))

theorem State.OnlyGrows.refl (noInit : Prop) (s : State) : OnlyGrows noInit s s :=
  ⟨⟨[], by simp⟩, id, fun _ => ⟨rfl, rfl, rfl, id⟩⟩

theorem State.SetupMove.onlyGrows {i : Instr} {noInit : Prop} (hno : noInit → ∀ n tx rx, i ≠ .init n tx rx) {s t : State}
    (h : SetupMove i s t) : OnlyGrows noInit s t := by
  cases h with
  | same => exact .refl _ s
  | configure n tx rx hi hl =>
    refine ⟨⟨[], by simp⟩, nofun, fun hq => ?_⟩
    rcases hq with hq | hq
    · exact absurd hl hq
    · exact absurd hi (hno hq n tx rx)
  | link l hs hl => exact ⟨⟨[], by simp⟩, fun _ => hl, fun _ => ⟨rfl, rfl, rfl, fun h => absurd h hs⟩⟩
  | register c => exact ⟨⟨[c], by simp⟩, id, fun _ => ⟨rfl, rfl, rfl, id⟩⟩

/-- Settles O49: an instruction's move on these elements; a reserved code and an idle step leave them alone. -/
theorem configurationAndTableOnlyGrow : Obligations.ConfigurationAndTableOnlyGrow := by
  intro s t h
  have served : ∀ p, (s.consume p).setup = s.setup := fun p => by rw [State.consume_frame]; rfl
  rcases step_cases s with ⟨hr, he⟩ | ⟨_, _, he⟩ | ⟨p, _, hg, ⟨i, hdec, he⟩ | ⟨_, he⟩ | ⟨e, _, he⟩⟩ <;> rw [he] at h
  · cases h; exact ⟨rfl, fun h => absurd (hr.symm.trans h) (by decide)⟩
  · cases h; exact ⟨rfl, fun _ => State.OnlyGrows.refl _ s⟩
  · have hm := exec_setupMove h
    rw [served p] at hm
    exact ⟨hm.params, fun _ => hm.onlyGrows fun hno n tx rx hi => hno p n tx rx hg (hi ▸ hdec)⟩
  · have ht : t.setup = s.setup := by
      rw [← Host.Outcome.next.inj h, ← served p]
      cases p <;> rfl
    have hm : State.SetupMove .isIdle s.setup t.setup := ht ▸ .same _
    exact ⟨hm.params, fun _ => hm.onlyGrows (by simp)⟩
  · cases h

end Sys2Proof.Machine
end

section
/-! SUPPORT. The slots of `rx_fb` that a rule may read have been written in the current frame (R34, R49). Settles the statement of it. -/

namespace Sys2Proof.Machine

theorem State.rxWritten_of_waitingHeader {s : State} (h : s.rxState = .waitingHeader) : s.RxWritten := by
  unfold State.RxWritten; rw [h]; exact ⟨nofun, nofun⟩

/-- A data byte that fits is written to its slot before it is counted (R135). -/
theorem State.rxFeed_data_written {s : State} (b : Byte) {now : Tick} (hr : s.rxState = .waitingData) (hs : s.RxWritten) :
    (s.rxFeed b now).RxWritten := by
  obtain ⟨-, hd⟩ := hs
  obtain ⟨h3, hslots⟩ := hd hr
  have kept : ∀ j, (s.rxFb.read j).isSome = true →
      ((if 4 + s.rxReceived.toNat < s.params.rxCap then s.rxFb.write (4 + s.rxReceived.toNat) b else s.rxFb).read j).isSome = true :=
    fun j hj => by
      split
      · exact Memory.isSome_write _ b hj
      · exact hj
  rw [State.rxFeed_data b hr]
  refine ⟨fun h => ?_, fun _ => ⟨kept 3 h3, fun k hk hcap => ?_⟩⟩
  · dsimp only at h; split at h <;> cases h
  · have hk : k < s.rxReceived.toNat ∨ k = s.rxReceived.toNat := by
      have hk : k < (s.rxReceived + 1#8).toNat := hk
      bv_omega
    rcases hk with hk | rfl
    · exact kept _ (hslots k hk hcap)
    · have hcap : 4 + s.rxReceived.toNat < s.params.rxCap := hcap
      dsimp only
      rw [if_pos hcap, Memory.read_write_same]; rfl

theorem State.rxFeed_written {s : State} (b : Byte) (now : Tick) (hs : s.RxWritten) : (s.rxFeed b now).RxWritten := by
  cases hr : s.rxState with
  | waitingHeader =>
    rw [State.rxFeed_header b now hr]
    unfold State.feedHeader
    split
    · exact State.rxWritten_of_waitingHeader hr
    · split
      · exact ⟨nofun, nofun⟩
      · exact State.rxWritten_of_waitingHeader hr
  | waitingLength =>
    rw [State.rxFeed_length b hr]
    exact ⟨fun _ => by dsimp only; rw [Memory.read_write_same]; rfl, nofun⟩
  | waitingFunctionCode =>
    rw [State.rxFeed_functionCode b hr]
    exact ⟨nofun, fun _ => ⟨by dsimp only; rw [Memory.read_write_same]; rfl, fun k hk => absurd hk k.not_lt_zero⟩⟩
  | waitingData => exact State.rxFeed_data_written b hr hs
  | dataReceived => unfold State.rxFeed; rw [hr]; exact hs

theorem State.rxStep_written {s t : State} {now : Tick} (h : s.rxStep now = .next t) (hs : s.RxWritten) : t.RxWritten := by
  rcases State.rxStep_next h with ⟨_, rfl⟩ | ⟨_, _, rfl⟩ | ⟨_, _, rfl⟩ | ⟨_, _, b, _, rfl⟩
  · exact hs
  · exact ⟨nofun, nofun⟩
  · exact hs
  · exact State.rxFeed_written (s := { s with rbTail := s.nextTail }) b now hs

theorem State.tickTail_written {s : State} (now : Tick) (hs : s.RxWritten) : (s.tickTail now).RxWritten := by
  rcases s.tickTail_parser now with ⟨h, -⟩ | ⟨-, h, -⟩
  · exact State.rxWritten_of_waitingHeader h
  · have hs' : State.RxWritten { s with rxState := (s.tickTail now).rxState } := by rw [h]; exact hs
    rw [State.tickTail_frame]
    exact hs'

theorem State.Move.rxWritten {i : Instr} {s t : State} (h : Move i s t) (hs : s.RxWritten) : t.RxWritten := by
  cases h with
  | same | build | send | register | done => exact hs
  | configure | wipe => exact State.rxWritten_of_waitingHeader rfl
  | tick s0 s1 now h0 hx =>
    have hs0 := h0.keeps (P := State.RxWritten) (fun _ => Iff.rfl) (fun _ => State.rxWritten_of_waitingHeader rfl) hs
    exact State.tickTail_written now (State.rxStep_written hx hs0)
  | store idx b => rw [State.storeByte_frame]; exact hs
  | publish idx => rw [State.publish_frame]; exact hs
  | error => unfold State.enterError; split <;> exact hs
  | receive bs => rw [State.receive, State.receiveFrom_frame]; exact hs

/-- Settles O53: `rst` clears the parser, and every move writes a slot before the parser's state lets it be read. -/
theorem readableSlotsHaveBeenWritten : Obligations.ReadableSlotsHaveBeenWritten := fun _ _ _ hs h =>
  step_keeps (P := State.RxWritten) (fun _ => Iff.rfl) (fun _ _ => State.rxWritten_of_waitingHeader rfl)
    (fun _ _ _ hu he => exec_of_move (P := State.RxWritten) (Q := State.RxWritten) (fun _ => Iff.rfl) (fun _ => Iff.rfl)
      (fun _ _ hv hm => hm.rxWritten hv) he hu) h hs

end Sys2Proof.Machine
end

section
/-! SUPPORT. No rule reads an element that R48 leaves unspecified before a rule has written it (R49): every operation commutes with exchanging
these elements, as long as those that are meaningful agree. Settles the statement of it. -/

namespace Sys2Proof.Machine

/-- The elements that may be without meaning: those in which `State.SameMeaning` lets two states differ. -/
structure Spare where
  cfgN : Nat
  cfgTxTimeout : Tick
  cfgRxTimeout : Tick
  rxFb : Memory
  rxExpected : Byte
  rxReceived : Byte
  rxStartTick : Tick
  txSendTick : Tick
  txFb : Memory
  txLen : Nat

def State.spare (s : State) : Spare where
  cfgN := s.cfgN
  cfgTxTimeout := s.cfgTxTimeout
  cfgRxTimeout := s.cfgRxTimeout
  rxFb := s.rxFb
  rxExpected := s.rxExpected
  rxReceived := s.rxReceived
  rxStartTick := s.rxStartTick
  txSendTick := s.txSendTick
  txFb := s.txFb
  txLen := s.txLen

/-- The state with these elements exchanged. -/
def State.withSpare (s : State) (x : Spare) : State :=
  { s with
    cfgN := x.cfgN
    cfgTxTimeout := x.cfgTxTimeout
    cfgRxTimeout := x.cfgRxTimeout
    rxFb := x.rxFb
    rxExpected := x.rxExpected
    rxReceived := x.rxReceived
    rxStartTick := x.rxStartTick
    txSendTick := x.txSendTick
    txFb := x.txFb
    txLen := x.txLen }

/-! ### Where they must agree: the clauses of `State.SameMeaning` -/

/-- The configuration means something once initialised. -/
def State.AgreesCfg (s : State) (x : Spare) : Prop :=
  s.link ≠ .uninit → x.cfgN = s.cfgN ∧ x.cfgTxTimeout = s.cfgTxTimeout ∧ x.cfgRxTimeout = s.cfgRxTimeout

/-- The function code and the first `n` data bytes, as far as they are stored. -/
def State.AgreesSlots (s : State) (x : Spare) (n : Nat) : Prop :=
  x.rxFb.read 3 = s.rxFb.read 3 ∧ ∀ k < n, 4 + k < s.params.rxCap → x.rxFb.read (4 + k) = s.rxFb.read (4 + k)

/-- What the parser's state makes meaningful. -/
def State.AgreesRx (s : State) (x : Spare) : Prop :=
  (s.rxState ≠ .waitingHeader → x.rxStartTick = s.rxStartTick) ∧
  (s.rxState = .waitingFunctionCode → x.rxFb.read 2 = s.rxFb.read 2) ∧
  (s.rxState = .waitingData →
    x.rxExpected = s.rxExpected ∧ x.rxReceived = s.rxReceived ∧ s.AgreesSlots x s.rxReceived.toNat)

/-- The send tick means something while a transaction is open. -/
def State.AgreesTx (s : State) (x : Spare) : Prop := s.txState ≠ .idle → x.txSendTick = s.txSendTick

def State.Agrees (s : State) (x : Spare) : Prop := s.AgreesCfg x ∧ s.AgreesRx x ∧ s.AgreesTx x

/-- Within a tick a frame may be complete; then its length, function code and data are meaningful. -/
def State.AgreesComplete (s : State) (x : Spare) : Prop :=
  s.rxState = .dataReceived → x.rxExpected = s.rxExpected ∧ s.AgreesSlots x s.rxExpected.toNat

theorem State.sameMeaning_withSpare {s : State} {x : Spare} : s.SameMeaning (s.withSpare x) ↔ s.Agrees x :=
  ⟨fun ⟨_, hcfg, hstart, hlen, hdata, htx⟩ => ⟨hcfg, ⟨hstart, hlen, hdata⟩, htx⟩,
    fun ⟨hcfg, ⟨hstart, hlen, hdata⟩, htx⟩ => ⟨rfl, hcfg, hstart, hlen, hdata, htx⟩⟩

theorem State.Agrees.sameMeaning {s : State} {x : Spare} (h : s.Agrees x) : s.SameMeaning (s.withSpare x) :=
  State.sameMeaning_withSpare.2 h

theorem State.SameMeaning.eq_withSpare {s s' : State} (h : s.SameMeaning s') : s' = s.withSpare s'.spare := h.1

/-- A parser that waits for a header needs no agreement. -/
theorem State.agreesRx_of_waitingHeader {s : State} {x : Spare} (h : s.rxState = .waitingHeader) : s.AgreesRx x := by
  unfold State.AgreesRx; rw [h]; exact ⟨fun hn => absurd rfl hn, nofun, nofun⟩

theorem State.agreesComplete_of_ne {s : State} {x : Spare} (h : s.rxState ≠ .dataReceived) : s.AgreesComplete x :=
  fun hd => absurd hd h

/-! ### Operations that touch none of them, or write them without reading them -/

@[simp] theorem State.takeOp_withSpare (s : State) (x : Spare) : (s.withSpare x).takeOp = s.takeOp.withSpare x := rfl
@[simp] theorem State.emit_withSpare (s : State) (x : Spare) (o : Output) : (s.withSpare x).emit o = (s.emit o).withSpare x := rfl
@[simp] theorem State.nextAnswer_withSpare (s : State) (x : Spare) : (s.withSpare x).nextAnswer = s.nextAnswer := rfl
@[simp] theorem State.wipe_withSpare (s : State) (x : Spare) : (s.withSpare x).wipe = s.wipe.withSpare x := rfl
@[simp] theorem State.popAnswer_withSpare (s : State) (x : Spare) : (s.withSpare x).popAnswer = s.popAnswer.withSpare x := by
  rw [State.popAnswer_eq, State.popAnswer_eq]; rfl
@[simp] theorem State.buildTx_withSpare (s : State) (x : Spare) (frame : List Byte) :
    (s.withSpare x).buildTx frame = (s.buildTx frame).withSpare { x with txFb := x.txFb.writeAll 0 frame, txLen := frame.length } := rfl
theorem State.popAnswer_agrees {s : State} {x : Spare} (hx : s.Agrees x) : s.popAnswer.Agrees x := by
  rw [State.popAnswer_eq]; exact hx

theorem State.enterError_withSpare (s : State) (x : Spare) : (s.withSpare x).enterError = s.enterError.withSpare x := by
  unfold State.enterError
  by_cases h : s.link = .operational
  · rw [if_pos h]; exact if_pos h
  · rw [if_neg h]; exact if_neg h

theorem State.enterError_agrees {s : State} {x : Spare} (hx : s.Agrees x) : s.enterError.Agrees x := by
  rcases s.enterError_cases with he | ⟨hl, he⟩ <;> rw [he]
  · exact hx
  · exact ⟨fun _ => hx.1 (by rw [hl]; decide), hx.2⟩

/-! ### The ring operations: they read the capacity only once initialised (R110, R112) -/

theorem State.AgreesCfg.ignored {s : State} {x : Spare} (hc : s.AgreesCfg x) {idx : Nat} (h : s.link = .uninit ∨ s.cfgN ≤ idx) :
    (s.withSpare x).link = .uninit ∨ (s.withSpare x).cfgN ≤ idx := by
  by_cases hl : s.link = .uninit
  · exact .inl hl
  · exact .inr ((hc hl).1.trans_le (h.resolve_left hl))

theorem State.storeByte_withSpare {s : State} {x : Spare} (hc : s.AgreesCfg x) (idx : Nat) (b : Byte) :
    (s.withSpare x).storeByte idx b = (s.storeByte idx b).withSpare x := by
  by_cases hi : s.link = .uninit ∨ s.cfgN ≤ idx
  · rw [State.storeByte_ignored b hi, State.storeByte_ignored b (hc.ignored hi)]
  · rw [not_or, not_le] at hi
    rw [State.storeByte_taken b hi.1 hi.2, State.storeByte_taken (s := s.withSpare x) b hi.1 (hi.2.trans_eq (hc hi.1).1.symm)]
    rfl

theorem State.publish_withSpare {s : State} {x : Spare} (hc : s.AgreesCfg x) (idx : Nat) :
    (s.withSpare x).publish idx = (s.publish idx).withSpare x := by
  by_cases hi : s.link = .uninit ∨ s.cfgN ≤ idx
  · rw [State.publish_ignored hi, State.publish_ignored (hc.ignored hi)]
  · rw [not_or, not_le] at hi
    have hN := (hc hi.1).1
    have hov : (s.withSpare x).overflows idx = s.overflows idx := by
      unfold State.overflows State.rbLimit State.rbUnread State.rbAdvance State.withSpare
      rw [hN]
    rw [State.publish_taken hi.1 hi.2, State.publish_taken (s := s.withSpare x) hi.1 (hi.2.trans_eq hN.symm), hov]
    rfl

theorem State.receiveFrom_withSpare {s : State} {x : Spare} (hc : s.AgreesCfg x) (k : Int) (bs : List Byte) :
    (s.withSpare x).receiveFrom k bs = (s.receiveFrom k bs).withSpare x := by
  by_cases hl : s.link = .uninit
  · rw [State.receiveFrom_uninit k bs hl]; exact State.receiveFrom_uninit k bs hl
  · have hN : (s.withSpare x).cfgN = s.cfgN := (hc hl).1
    induction bs generalizing s k with
    | nil => rw [State.receiveFrom, State.receiveFrom, hN]; exact State.publish_withSpare hc _
    | cons b bs ih =>
      have hf := s.storeByte_frame ((k + 1) % (s.cfgN : Int)).toNat b
      rw [State.receiveFrom, State.receiveFrom, hN, State.storeByte_withSpare hc]
      generalize s.storeByte ((k + 1) % (s.cfgN : Int)).toNat b = u at hf
      rw [hf]
      exact ih (s := { s with rbMem := u.rbMem }) hc (k + 1) hl hN

/-! ### The requests (R150, R155) and `INIT` (R190) -/

theorem State.request_withSpare {s : State} {x : Spare} (hx : s.Agrees x) (argsOk : Bool) (frame : List Byte) (sending : TxState)
    (now : Tick) : (s.request argsOk frame sending now).SameMeaning ((s.withSpare x).request argsOk frame sending now) := by
  by_cases hl : s.link = .operational
  · by_cases hi : s.txState = .idle
    · cases argsOk with
      | false =>
        rw [State.request_invalid hl hi, State.request_invalid (s := s.withSpare x) hl hi]
        exact State.Agrees.sameMeaning (s := s.reply .invalidArg) hx
      | true =>
        have hu : ((s.buildTx frame).emit (.xpTxStart frame)).popAnswer.Agrees
            { x with txFb := x.txFb.writeAll 0 frame, txLen := frame.length } := State.popAnswer_agrees hx
        rw [State.request_offered hl hi, State.request_offered (s := s.withSpare x) hl hi, State.nextAnswer_withSpare,
          State.buildTx_withSpare, State.emit_withSpare, State.popAnswer_withSpare]
        generalize ((s.buildTx frame).emit (.xpTxStart frame)).popAnswer = u at hu ⊢
        dsimp only
        split
        · exact State.Agrees.sameMeaning (s := State.reply { u with txSendTick := now, txState := sending } .ok)
            (x := { x with txFb := x.txFb.writeAll 0 frame, txLen := frame.length, txSendTick := now }) ⟨hu.1, hu.2.1, fun _ => rfl⟩
        · exact State.Agrees.sameMeaning (s := u.reply .xportErr) hu
    · rw [State.request_busy hl hi, State.request_busy (s := s.withSpare x) hl hi]
      exact State.Agrees.sameMeaning (s := s.reply .busy) hx
  · rw [State.request_notReady hl, State.request_notReady (s := s.withSpare x) hl]
    exact State.Agrees.sameMeaning (s := s.reply .notReady) hx

theorem execInit_withSpare {s t : State} {x : Spare} {n : Nat} {tx rx : Tick} (hx : s.Agrees x)
    (h : exec (.init n tx rx) s = .next t) : ∃ t', exec (.init n tx rx) (s.withSpare x) = .next t' ∧ t.SameMeaning t' := by
  by_cases hl : s.link = .uninit
  · by_cases hn : 2 ≤ n
    · by_cases hm : n ≤ s.params.rbMax
      · have hu : (s.takeOp.emit (.xpRxStart n)).popAnswer.Agrees x := State.popAnswer_agrees hx
        refine ⟨_, execInit_offered (s := s.withSpare x) hl hn hm, ?_⟩
        rw [execInit_offered hl hn hm] at h
        rw [← Host.Outcome.next.inj h, State.nextAnswer_withSpare, State.takeOp_withSpare, State.emit_withSpare,
          State.popAnswer_withSpare]
        generalize (s.takeOp.emit (.xpRxStart n)).popAnswer = u at hu ⊢
        split
        · exact State.Agrees.sameMeaning (s := (u.wipe.configure n tx rx).reply .ok)
            (x := { x with cfgN := n, cfgTxTimeout := tx, cfgRxTimeout := rx })
            ⟨fun _ => ⟨rfl, rfl, rfl⟩, State.agreesRx_of_waitingHeader rfl, fun h => absurd rfl h⟩
        · exact State.Agrees.sameMeaning (s := u.reply .xportErr) hu
      · rw [execInit_allocFail hl hn (not_le.1 hm)] at h
        cases h
        exact ⟨_, execInit_allocFail (s := s.withSpare x) hl hn (not_le.1 hm),
          State.Agrees.sameMeaning (s := s.takeOp.reply .allocFail) hx⟩
    · rw [execInit_invalidArg hl (not_le.1 hn)] at h
      cases h
      exact ⟨_, execInit_invalidArg (s := s.withSpare x) hl (not_le.1 hn), State.Agrees.sameMeaning (s := s.takeOp.reply .invalidArg) hx⟩
  · rw [execInit_busy hl] at h
    cases h; exact ⟨_, execInit_busy (s := s.withSpare x) hl, State.Agrees.sameMeaning (s := s.takeOp.reply .busy) hx⟩

/-! ### `REGISTER_CB` (R180) -/

theorem execRegisterCb_withSpare {s t : State} {x : Spare} {addr : VpAddr} {tag : Nat} (hx : s.Agrees x)
    (h : exec (.registerCb addr tag) s = .next t) :
    ∃ t', exec (.registerCb addr tag) (s.withSpare x) = .next t' ∧ t.SameMeaning t' := by
  by_cases hl : s.link = .operational
  · by_cases hc : s.cbN = s.params.cbCap
    · rw [execRegisterCb_capacity hl hc] at h
      cases h
      exact ⟨_, execRegisterCb_capacity (s := s.withSpare x) hl hc, State.Agrees.sameMeaning (s := s.takeOp.reply .capacity) hx⟩
    · rw [execRegisterCb_ok hl hc] at h
      cases h
      exact ⟨_, execRegisterCb_ok (s := s.withSpare x) hl hc,
        State.Agrees.sameMeaning (s := (s.takeOp.addCb addr tag).reply .ok) hx⟩
  · rw [execRegisterCb_notReady hl] at h
    cases h
    exact ⟨_, execRegisterCb_notReady (s := s.withSpare x) hl, State.Agrees.sameMeaning (s := s.takeOp.reply .notReady) hx⟩

/-! ### Step 2 of a tick (R137, R130) -/

theorem State.rxByte_withSpare {s : State} {x : Spare} {i : Nat} (h : x.rxFb.read i = s.rxFb.read i) :
    (s.withSpare x).rxByte i = s.rxByte i := congrArg (fun o : Option Byte => o.getD _) h

theorem State.AgreesRx.wantsByte {s : State} {x : Spare} (h : s.AgreesRx x) : (s.withSpare x).wantsByte = s.wantsByte := by
  obtain ⟨-, -, hdata⟩ := h
  refine Bool.eq_iff_iff.2 (State.wantsByte_iff.trans (Iff.trans ?_ State.wantsByte_iff.symm))
  refine and_congr_right fun _ => not_congr (and_congr_right fun hr => ?_)
  obtain ⟨he, hc, -⟩ := hdata hr
  show x.rxReceived = x.rxExpected ↔ _
  rw [he, hc]

/-- Where a parser's move to `t` has taken the exchanged elements from `x` to `y`: they agree again, and only the parser's own have changed. -/
def State.ParserAlike (t : State) (x y : Spare) : Prop :=
  t.AgreesRx y ∧ t.AgreesComplete y ∧
    y = { x with rxFb := y.rxFb, rxExpected := y.rxExpected, rxReceived := y.rxReceived, rxStartTick := y.rxStartTick }

/-- A parser that holds no complete frame and to which the exchange makes no difference. -/
theorem State.ParserAlike.same {s : State} {x : Spare} (hd : s.rxState ≠ .dataReceived) (hx : s.AgreesRx x) : ParserAlike s x x :=
  ⟨hx, State.agreesComplete_of_ne hd, rfl⟩

theorem State.feedHeader_withSpare {s : State} {x : Spare} (b : Byte) (now : Tick) (hr : s.rxState = .waitingHeader) :
    ∃ y, (s.withSpare x).feedHeader b now = (s.feedHeader b now).withSpare y ∧ (s.feedHeader b now).ParserAlike x y := by
  have hd : s.rxState ≠ .dataReceived := by rw [hr]; decide
  unfold State.feedHeader
  by_cases h5A : b = 0x5A#8
  · rw [if_pos h5A, if_pos h5A]
    exact ⟨{ x with rxFb := x.rxFb.write 0 b }, rfl, State.agreesRx_of_waitingHeader hr, State.agreesComplete_of_ne hd, rfl⟩
  · rw [if_neg h5A, if_neg h5A]
    by_cases hA5 : b = 0xA5#8 ∧ s.rxHdr1 = true
    · rw [if_pos hA5, if_pos (show b = 0xA5#8 ∧ (s.withSpare x).rxHdr1 = true from hA5)]
      exact ⟨{ x with rxFb := x.rxFb.write 1 b, rxStartTick := now }, rfl, ⟨fun _ => rfl, nofun, nofun⟩, nofun, rfl⟩
    · rw [if_neg hA5, if_neg (show ¬(b = 0xA5#8 ∧ (s.withSpare x).rxHdr1 = true) from hA5)]
      exact ⟨x, rfl, State.agreesRx_of_waitingHeader hr, State.agreesComplete_of_ne hd, rfl⟩

/-- `rx_fb` after a data byte: stored if there is a slot for it (R135). -/
def State.withData (s : State) (b : Byte) (fb : Memory) : Memory :=
  if 4 + s.rxReceived.toNat < s.params.rxCap then fb.write (4 + s.rxReceived.toNat) b else fb

theorem State.withData_congr (s : State) (b : Byte) {m m' : Memory} {j : Nat} (h : Memory.read m' j = Memory.read m j) :
    (s.withData b m').read j = (s.withData b m).read j := by
  unfold State.withData
  split
  · rw [Memory.read_write, Memory.read_write, h]
  · exact h

/-- With the next data byte stored in both, the slots agree up to it. -/
theorem State.AgreesSlots.data {s : State} {x : Spare} (b : Byte) (h : s.AgreesSlots x s.rxReceived.toNat) :
    State.AgreesSlots { s with rxFb := s.withData b s.rxFb } { x with rxFb := s.withData b x.rxFb } (s.rxReceived + 1#8).toNat := by
  obtain ⟨h3, hslots⟩ := h
  refine ⟨s.withData_congr b h3, fun k hk hcap => ?_⟩
  have hk : k < s.rxReceived.toNat ∨ k = s.rxReceived.toNat := by bv_omega
  rcases hk with hk | rfl
  · exact s.withData_congr b (hslots k hk hcap)
  · have hcap : 4 + s.rxReceived.toNat < s.params.rxCap := hcap
    simp only [State.withData, if_pos hcap, Memory.read_write_same]

theorem State.rxFeed_data_withSpare {s : State} {x : Spare} (b : Byte) (now : Tick) (hr : s.rxState = .waitingData)
    (hx : s.AgreesRx x) :
    ∃ y, (s.withSpare x).rxFeed b now = (s.rxFeed b now).withSpare y ∧ (s.rxFeed b now).ParserAlike x y := by
  obtain ⟨hstart, -, hdata⟩ := hx
  have hs := hstart (by rw [hr]; decide)
  obtain ⟨hexp, hrec, hslots⟩ := hdata hr
  have hnew := hslots.data b
  have hfeed := State.rxFeed_data (s := s.withSpare x) b (now := now) hr
  rw [show (s.withSpare x).rxExpected = s.rxExpected from hexp, show (s.withSpare x).rxReceived = s.rxReceived from hrec] at hfeed
  rw [hfeed, State.rxFeed_data b hr]
  refine ⟨{ x with rxFb := s.withData b x.rxFb, rxExpected := s.rxExpected, rxReceived := s.rxReceived + 1#8 }, rfl,
    ⟨fun _ => hs, fun h => ?_, fun _ => ⟨rfl, rfl, hnew⟩⟩, fun h => ⟨rfl, ?_⟩, rfl⟩
  · dsimp only at h; split at h <;> cases h
  · have hlast : s.rxReceived + 1#8 = s.rxExpected := by
      by_contra hne
      exact absurd ((if_neg hne).symm.trans h) (by decide)
    rw [hlast] at hnew
    exact hnew

/-- One byte fed (R132 to R135): what the new parser state makes meaningful has just been written, or agreed before. -/
theorem State.rxFeed_withSpare {s : State} {x : Spare} (b : Byte) (now : Tick) (hd : s.rxState ≠ .dataReceived) (hx : s.AgreesRx x) :
    ∃ y, (s.withSpare x).rxFeed b now = (s.rxFeed b now).withSpare y ∧ (s.rxFeed b now).ParserAlike x y := by
  cases hr : s.rxState with
  | waitingHeader =>
    rw [State.rxFeed_header b now hr, State.rxFeed_header (s := s.withSpare x) b now hr]
    exact State.feedHeader_withSpare b now hr
  | waitingLength =>
    have hs := hx.1 (by rw [hr]; decide)
    rw [State.rxFeed_length b hr, State.rxFeed_length (s := s.withSpare x) b hr]
    refine ⟨{ x with rxFb := x.rxFb.write 2 b }, rfl, ⟨fun _ => hs, fun _ => ?_, nofun⟩, nofun, rfl⟩
    dsimp only
    rw [Memory.read_write_same, Memory.read_write_same]
  | waitingFunctionCode =>
    obtain ⟨hstart, hlen, -⟩ := hx
    have hs := hstart (by rw [hr]; decide)
    rw [State.rxFeed_functionCode b hr, State.rxFeed_functionCode (s := s.withSpare x) b hr, State.rxByte_withSpare (hlen hr)]
    refine ⟨{ x with rxFb := x.rxFb.write 3 b, rxExpected := s.rxByte 2 - 1#8, rxReceived := 0#8 }, rfl,
      ⟨fun _ => hs, nofun, fun _ => ⟨rfl, rfl, ?_, fun k hk => absurd hk k.not_lt_zero⟩⟩, nofun, rfl⟩
    dsimp only
    rw [Memory.read_write_same, Memory.read_write_same]
  | waitingData => exact State.rxFeed_data_withSpare b now hr hx
  | dataReceived => exact absurd hr hd

theorem State.rxStep_withSpare {s t : State} {x : Spare} {now : Tick} (hi : s.RxInv) (hN : x.cfgN = s.cfgN) (hx : s.AgreesRx x)
    (h : s.rxStep now = .next t) : ∃ y, (s.withSpare x).rxStep now = .next (t.withSpare y) ∧ t.ParserAlike x y := by
  obtain ⟨hd, -, hcount⟩ := hi
  have hnext : (s.withSpare x).nextTail = s.nextTail := congrArg (fun n : Nat => (s.rbTail + 1) % (n : Int)) hN
  rcases State.rxStep_next h with ⟨hr, _⟩ | ⟨hr, he, rfl⟩ | ⟨hw, hempty, rfl⟩ | ⟨hw, hne, b, hb, rfl⟩
  · exact absurd hr hd
  · obtain ⟨hexp, hrec, h3, -⟩ := hx.2.2 hr
    have he' : (s.withSpare x).rxReceived = (s.withSpare x).rxExpected := hrec.trans (he.trans hexp.symm)
    have hzero : s.rxExpected = 0#8 := (hcount hr).2 he
    refine ⟨x, State.rxStep_noData (s := s.withSpare x) hr he', ⟨fun _ => hx.1 (by rw [hr]; decide), nofun, nofun⟩,
      fun _ => ⟨hexp, h3, fun k hk => ?_⟩, rfl⟩
    have hk : k < s.rxExpected.toNat := hk
    rw [hzero] at hk
    exact absurd hk k.not_lt_zero
  · exact ⟨x, (State.rxStep_wants (hx.wantsByte.trans hw)).trans (if_pos hempty), .same hd hx⟩
  · obtain ⟨y, hfeed, hy⟩ := State.rxFeed_withSpare (s := { s with rbTail := s.nextTail }) b now hd hx
    refine ⟨y, ?_, hy⟩
    have hb' : (s.withSpare x).rbMem.read (s.withSpare x).nextTail.toNat = some b := by rw [hnext]; exact hb
    rw [State.rxStep_wants (hx.wantsByte.trans hw), if_neg (show (s.withSpare x).rbTail ≠ (s.withSpare x).rbHead from hne), hb',
      ← hfeed, hnext]
    rfl

/-! ### Steps 3 to 5 of a tick (R162, R166, R170, R140) -/

theorem TxState.latency_idle {t : TxState} (h : t.latency ≠ .idle) : t ≠ .idle := by rintro rfl; exact h rfl

theorem State.txLatencyStep_withSpare (s : State) (x : Spare) : (s.withSpare x).txLatencyStep = s.txLatencyStep.withSpare x := rfl

theorem State.txLatencyStep_agrees {s : State} {x : Spare} (hx : s.Agrees x) : s.txLatencyStep.Agrees x :=
  ⟨hx.1, hx.2.1, fun h => hx.2.2 (TxState.latency_idle h)⟩

/-- A slot of the complete frame. -/
theorem State.AgreesSlots.rxByte {s : State} {x : Spare} {n : Nat} (h : s.AgreesSlots x n) {k : Nat} (hk : k < n)
    (hcap : 4 + k < s.params.rxCap) : (s.withSpare x).rxByte (4 + k) = s.rxByte (4 + k) := State.rxByte_withSpare (h.2 k hk hcap)

/-- Routing reads the function code and the two bytes of an acknowledgement (R166). -/
theorem State.routedTx_withSpare {s : State} {x : Spare} (hcap : 7 ≤ s.params.rxCap) (hexp : x.rxExpected = s.rxExpected)
    (hs : s.AgreesSlots x s.rxExpected.toNat) : (s.withSpare x).routedTx = s.routedTx := by
  have h3 : (s.withSpare x).rxByte 3 = s.rxByte 3 := State.rxByte_withSpare hs.1
  have hack : (s.withSpare x).holdsAck = s.holdsAck := by
    unfold State.holdsAck
    rw [h3, show (s.withSpare x).rxExpected = s.rxExpected from hexp]
    by_cases he : s.rxExpected = 2#8
    · have hn : s.rxExpected.toNat = 2 := by rw [he]; rfl
      rw [hs.rxByte (k := 0) (by omega) (by omega), hs.rxByte (k := 1) (by omega) (by omega)]
    · have hf : (s.rxExpected == 2#8) = false := beq_eq_false_iff_ne.2 he
      simp only [hf, Bool.and_false, Bool.false_and]
  unfold State.routedTx
  rw [h3, hack]
  rfl

/-- A callback reads the function code, the address, the count and the payload that are stored (R183). -/
theorem State.fired_withSpare {s : State} {x : Spare} (hcap : 7 ≤ s.params.rxCap) (hexp : x.rxExpected = s.rxExpected)
    (hs : s.AgreesSlots x s.rxExpected.toNat) : (s.withSpare x).fired = s.fired := by
  have h3 : (s.withSpare x).rxByte 3 = s.rxByte 3 := State.rxByte_withSpare hs.1
  have hlen : (s.withSpare x).rxExpected = s.rxExpected := hexp
  have hplen : (s.withSpare x).replyPlen = s.replyPlen := by
    unfold State.replyPlen State.rxStored
    rw [hlen]; rfl
  unfold State.fired
  rw [h3, hlen]
  by_cases hn : 3 ≤ s.rxExpected.toNat
  · have haddr : (s.withSpare x).replyAddr = s.replyAddr := by
      unfold State.replyAddr
      rw [hs.rxByte (k := 0) (by omega) (by omega), hs.rxByte (k := 1) (by omega) (by omega)]
    have hpay : (s.withSpare x).rxSlice 7 s.replyPlen = s.rxSlice 7 s.replyPlen := by
      refine List.map_congr_left fun k hk => ?_
      have hk : k < min s.rxExpected.toNat (s.params.rxCap - 4) - 3 := List.mem_range.1 hk
      rw [show 7 + k = 4 + (3 + k) by omega]
      exact hs.rxByte (by omega) (by omega)
    have hfire : ∀ i c, (s.withSpare x).fireOutput i c = s.fireOutput i c := fun i c => by
      unfold State.fireOutput
      rw [haddr, hplen, hpay, hs.rxByte (k := 2) (by omega) (by omega)]
    rw [haddr]
    simp only [hfire]
    rfl
  · rw [if_neg fun h => hn h.2, if_neg fun h => hn h.2]

theorem State.completeFrame_withSpare {s : State} {x : Spare} (hcap : 7 ≤ s.params.rxCap) (hc : s.AgreesComplete x) :
    (s.withSpare x).completeFrame = s.completeFrame.withSpare x := by
  by_cases hd : s.rxState = .dataReceived
  · obtain ⟨hexp, hs⟩ := hc hd
    rw [State.completeFrame_eq hd, State.completeFrame_eq (s := s.withSpare x) hd, State.routedTx_withSpare hcap hexp hs,
      State.fired_withSpare hcap hexp hs, State.rxByte_withSpare hs.1]
    obtain ⟨⟩ := x
    obtain rfl := hexp
    rfl
  · rw [show s.completeFrame = s from if_neg hd]; exact if_neg hd

/-- Step 4 opens no transaction, and leaves the parser alone or waiting for a header. -/
theorem State.completeFrame_agrees {s : State} {x : Spare} (hx : s.Agrees x) : s.completeFrame.Agrees x := by
  by_cases hd : s.rxState = .dataReceived
  · obtain ⟨hr, -, htx, -⟩ := State.completeFrame_complete hd
    have hopen : s.completeFrame.txState ≠ .idle → s.txState ≠ .idle := fun h => by
      rcases htx with he | ⟨_, he, _⟩ | ⟨he, _⟩
      · exact he ▸ h
      · exact absurd he h
      · rw [he]; decide
    refine ⟨?_, State.agreesRx_of_waitingHeader hr, fun h => ?_⟩
    · rw [State.completeFrame_frame]; exact hx.1
    · have ht := hx.2.2 (hopen h)
      rw [State.completeFrame_frame]; exact ht
  · rw [show s.completeFrame = s from if_neg hd]; exact hx

theorem State.txTimeoutCheck_withSpare {s : State} {x : Spare} (now : Tick) (hc : x.cfgTxTimeout = s.cfgTxTimeout)
    (hx : s.AgreesTx x) : (s.withSpare x).txTimeoutCheck now = (s.txTimeoutCheck now).withSpare x := by
  have hexp : (s.withSpare x).txExpired now = s.txExpired now :=
    decide_eq_decide.2 (and_congr_right fun h => by
      show x.cfgTxTimeout ≤ elapsed now x.txSendTick ↔ _
      rw [hc, hx h])
  unfold State.txTimeoutCheck
  rw [hexp]
  split <;> rfl

theorem State.txTimeoutCheck_agrees {s : State} {x : Spare} (now : Tick) (hx : s.Agrees x) : (s.txTimeoutCheck now).Agrees x := by
  unfold State.txTimeoutCheck
  split
  · exact ⟨hx.1, hx.2.1, fun h => absurd rfl h⟩
  · exact hx

theorem State.rxTimeoutCheck_withSpare {s : State} {x : Spare} (now : Tick) (hc : x.cfgRxTimeout = s.cfgRxTimeout)
    (hx : s.AgreesRx x) : (s.withSpare x).rxTimeoutCheck now = (s.rxTimeoutCheck now).withSpare x := by
  have hexp : (s.withSpare x).rxExpired now = s.rxExpired now :=
    decide_eq_decide.2 (and_congr_right fun h => by
      show x.cfgRxTimeout < elapsed now x.rxStartTick ↔ _
      rw [hc, hx.1 h])
  unfold State.rxTimeoutCheck
  rw [hexp]
  split <;> rfl

theorem State.rxTimeoutCheck_agrees {s : State} {x : Spare} (now : Tick) (hx : s.Agrees x) : (s.rxTimeoutCheck now).Agrees x := by
  unfold State.rxTimeoutCheck
  split
  · exact ⟨hx.1, State.agreesRx_of_waitingHeader rfl, hx.2.2⟩
  · exact hx

theorem State.tickTail_withSpare {s : State} {x : Spare} (now : Tick) (hcap : 7 ≤ s.params.rxCap) (hl : s.link ≠ .uninit)
    (hx : s.Agrees x) (hc : s.AgreesComplete x) :
    (s.withSpare x).tickTail now = (s.tickTail now).withSpare x ∧ (s.tickTail now).Agrees x := by
  obtain ⟨-, hTx, hRx⟩ := hx.1 hl
  have hu := State.completeFrame_agrees (State.txLatencyStep_agrees hx)
  have hf := s.txLatencyStep.completeFrame_frame
  have hcfg : s.txLatencyStep.completeFrame.cfgTxTimeout = s.cfgTxTimeout ∧
      s.txLatencyStep.completeFrame.cfgRxTimeout = s.cfgRxTimeout := by rw [hf]; exact ⟨rfl, rfl⟩
  unfold State.tickTail
  rw [State.txLatencyStep_withSpare, State.completeFrame_withSpare (s := s.txLatencyStep) hcap hc]
  generalize s.txLatencyStep.completeFrame = u at hu hcfg ⊢
  have hv := State.txTimeoutCheck_agrees now hu
  have hvRx : (u.txTimeoutCheck now).cfgRxTimeout = u.cfgRxTimeout := by rw [State.txTimeoutCheck_eq]
  rw [State.txTimeoutCheck_withSpare now (hTx.trans hcfg.1.symm) hu.2.2,
    State.rxTimeoutCheck_withSpare now (hRx.trans (hcfg.2.symm.trans hvRx.symm)) hv.2.1]
  exact ⟨rfl, State.rxTimeoutCheck_agrees now hv⟩

/-- Steps 2 to 5 of a tick. -/
theorem State.tickBody_withSpare {s t : State} {x : Spare} {now : Tick} (hcap : 7 ≤ s.params.rxCap) (hi : s.RxInv)
    (hl : s.link ≠ .uninit) (hx : s.Agrees x) (h : s.tickBody now = .next t) :
    ∃ t', (s.withSpare x).tickBody now = .next t' ∧ t.SameMeaning t' := by
  obtain ⟨s1, hs1, rfl⟩ := State.tickBody_next h
  obtain ⟨y, hy1, hrx, hcomplete, hy⟩ := State.rxStep_withSpare hi (hx.1 hl).1 hx.2.1 hs1
  have hf := (State.rxStep_frame hs1).2
  have hkept : s1.AgreesCfg y ∧ s1.AgreesTx y ∧ 7 ≤ s1.params.rxCap ∧ s1.link ≠ .uninit := by
    rw [hf, hy]; exact ⟨hx.1, hx.2.2, hcap, hl⟩
  obtain ⟨hcfg, htx, hcap1, hl1⟩ := hkept
  obtain ⟨he, ha⟩ := State.tickTail_withSpare now hcap1 hl1 ⟨hcfg, hrx, htx⟩ hcomplete
  refine ⟨(((s1.withSpare y).tickTail now).reply .ok), by unfold State.tickBody; rw [hy1], ?_⟩
  rw [he]
  exact State.Agrees.sameMeaning (s := (s1.tickTail now).reply .ok) ha

/-! ### Recovery and `TICK` (R195, R196) -/

theorem State.recover_withSpare {s : State} {x : Spare} (hN : x.cfgN = s.cfgN) :
    (s.withSpare x).recover = (s.recover.1, s.recover.2.withSpare x) := by
  rw [State.recover_cases, State.recover_cases]
  simp only [State.nextAnswer_withSpare, State.popAnswer_withSpare, State.wipe_withSpare, State.emit_withSpare,
    show (s.withSpare x).cfgN = s.cfgN from hN]
  split
  · rfl
  · split <;> rfl

/-- What recovery leaves, up to `link`: the resets (R195). -/
theorem State.recover_block_wipe {s : State} (hl : s.link = .transportError) :
    ∃ l, l ≠ .uninit ∧ s.recover.2.block = State.block { s.wipe with link := l } := by
  rw [State.recover_block]
  split
  · exact ⟨.operational, nofun, rfl⟩
  · refine ⟨.transportError, nofun, ?_⟩
    rw [← hl]; rfl

theorem execTick_withSpare {s t : State} {x : Spare} {now : Tick} (hcap : 7 ≤ s.params.rxCap) (hi : s.RxInv) (hx : s.Agrees x)
    (h : exec (.tick now) s = .next t) : ∃ t', exec (.tick now) (s.withSpare x) = .next t' ∧ t.SameMeaning t' := by
  cases hl : s.link with
  | uninit =>
    rw [execTick_uninit hl] at h
    cases h; exact ⟨_, execTick_uninit (s := s.withSpare x) hl, State.Agrees.sameMeaning (s := s.takeOp.reply .notReady) hx⟩
  | transportError =>
    have hcfg := hx.1 (show s.link ≠ .uninit by rw [hl]; decide)
    obtain ⟨l, hln, hb⟩ := State.recover_block_wipe (s := s.takeOp) hl
    obtain ⟨ha, hr, hc, hln⟩ := State.of_block_eq
      (P := fun u => u.Agrees x ∧ u.RxInv ∧ 7 ≤ u.params.rxCap ∧ u.link ≠ .uninit) (fun _ => Iff.rfl) hb
      ⟨⟨fun _ => hcfg, State.agreesRx_of_waitingHeader rfl, fun h => absurd rfl h⟩, ⟨nofun, nofun, nofun⟩, hcap, hln⟩
    rw [execTick_error hl] at h
    rw [execTick_error (s := s.withSpare x) hl, State.takeOp_withSpare, State.recover_withSpare (s := s.takeOp) hcfg.1]
    dsimp only
    split at h
    · next hok => rw [if_pos hok]; exact State.tickBody_withSpare hc hr hln ha h
    · next hok =>
      cases h
      rw [if_neg hok]
      exact ⟨_, rfl, State.Agrees.sameMeaning (s := s.takeOp.recover.2.reply .xportErr) ha⟩
  | operational =>
    rw [execTick_operational hl] at h
    rw [execTick_operational (s := s.withSpare x) hl]
    exact State.tickBody_withSpare (s := s.takeOp) hcap hi (show s.link ≠ .uninit by rw [hl]; decide) hx h

/-! ### The transport's events (R110, R112, R158, R193, R101) -/

theorem TxState.done_idle {t : TxState} (h : t.done ≠ .idle) : t ≠ .idle := by rintro rfl; exact h rfl

theorem State.storeByte_sameMeaning {s : State} {x : Spare} (hx : s.Agrees x) (idx : Nat) (b : Byte) :
    (s.storeByte idx b).SameMeaning ((s.withSpare x).storeByte idx b) := by
  rw [State.storeByte_withSpare hx.1]
  refine State.Agrees.sameMeaning ?_
  rw [State.storeByte_frame]; exact hx

theorem State.publish_sameMeaning {s : State} {x : Spare} (hx : s.Agrees x) (idx : Nat) :
    (s.publish idx).SameMeaning ((s.withSpare x).publish idx) := by
  rw [State.publish_withSpare hx.1]
  refine State.Agrees.sameMeaning ?_
  rw [State.publish_frame]; exact hx

theorem State.receive_sameMeaning {s : State} {x : Spare} (hx : s.Agrees x) (bs : List Byte) :
    (s.receive bs).SameMeaning ((s.withSpare x).receive bs) := by
  unfold State.receive
  rw [show (s.withSpare x).rbHead = s.rbHead from rfl, State.receiveFrom_withSpare hx.1]
  refine State.Agrees.sameMeaning ?_
  rw [State.receiveFrom_frame]; exact hx

/-! ### Every instruction -/

theorem exec_withSpare {i : Instr} {s t : State} {x : Spare} (hi : s.Inv) (hx : s.Agrees x) (h : exec i s = .next t) :
    ∃ t', exec i (s.withSpare x) = .next t' ∧ t.SameMeaning t' := by
  obtain ⟨⟨-, hcap, -⟩, -, -, hrx, -⟩ := hi
  cases i with
  | init n tx rx => exact execInit_withSpare hx h
  | tick now => exact execTick_withSpare hcap hrx hx h
  | registerCb addr tag => exact execRegisterCb_withSpare hx h
  | writeVp | readVp => cases h; exact ⟨_, rfl, State.request_withSpare (s := s.takeOp) hx _ _ _ _⟩
  | writeReq | readReq => cases h; exact ⟨_, rfl, State.request_withSpare (s := s.takeOp.drawFree) hx _ _ _ _⟩
  | isIdle => cases h; exact ⟨_, rfl, State.Agrees.sameMeaning (s := s.takeOp.replyBit s.idle) hx⟩
  | rbWrite idx b => cases h; exact ⟨_, rfl, State.storeByte_sameMeaning (s := s.takeOp) hx idx b⟩
  | rxProgress idx => cases h; exact ⟨_, rfl, State.publish_sameMeaning (s := s.takeOp) hx idx⟩
  | txDone =>
    cases h
    exact ⟨_, rfl, State.Agrees.sameMeaning (s := { s.takeOp with txState := s.txState.done })
      ⟨hx.1, hx.2.1, fun hd => hx.2.2 (TxState.done_idle hd)⟩⟩
  | xportErr =>
    cases h
    refine ⟨_, rfl, ?_⟩
    rw [State.takeOp_withSpare, State.enterError_withSpare]
    exact (State.enterError_agrees (s := s.takeOp) hx).sameMeaning
  | writeAck =>
    rw [exec_writeAck] at h ⊢
    rw [← Host.Outcome.next.inj h]
    exact ⟨_, rfl, State.receive_sameMeaning (s := s.takeOp) hx ackFrame⟩
  | readReply len data => cases h; exact ⟨_, rfl, State.receive_sameMeaning (s := s.takeOp) hx _⟩

/-- A stop reads only what agrees. -/
theorem exec_fault_withSpare {i : Instr} {s : State} {x : Spare} {f : Fault} (hx : s.Agrees x) (h : exec i s = .fault f) :
    exec i (s.withSpare x) = .fault f := by
  obtain ⟨htick, hl, hw, hne, hread, hf⟩ := exec_fault.1 h
  have hN : x.cfgN = s.cfgN := (hx.1 (by rw [hl]; decide)).1
  have hnext : (s.withSpare x).nextTail = s.nextTail := congrArg (fun n : Nat => (s.rbTail + 1) % (n : Int)) hN
  refine exec_fault.2 ⟨htick, hl, hx.2.1.wantsByte.trans hw, hne, ?_, ?_⟩ <;> rw [hnext]
  · exact hread
  · exact hf

/-- Settles O54: the second state is the first with the meaningless elements exchanged, and every instruction commutes with the exchange. -/
theorem unspecifiedElementsAreNeverRead : Obligations.UnspecifiedElementsAreNeverRead := by
  intro s s' i hi hs
  have he := hs.eq_withSpare
  generalize s'.spare = x at he
  subst he
  have hx := State.sameMeaning_withSpare.1 hs
  exact ⟨fun _ => exec_withSpare hi hx, fun _ => exec_fault_withSpare hx⟩

end Sys2Proof.Machine
end

section
/-! SUPPORT. The decoder and the encoder say the same (R64, R80 to R84, R96, R97): what decodes on a port is the encoding of an instruction of
that port, and every well-formed instruction is read back. Settles the statements about both directions and the spec's own words. -/

namespace Sys2Proof

/-! ### Every well-formed instruction is read back -/

/-- The frames the block sends (R81, R83). -/
theorem decode_host_frame (r : List Byte) : decode .host (0x5A#8 :: r) = decodeFrameOut r := rfl

/-- The frames the display sends (R82, R84). -/
theorem decode_xport_frame (r : List Byte) : decode .xport (0x5A#8 :: r) = decodeFrameIn r := rfl

theorem decodeFrameOut_writeReq (len : Byte) (addr : VpAddr) (r : List Byte) :
    decodeFrameOut (0xA5#8 :: len :: 0x82#8 :: (be16 addr ++ r)) = .instr (.writeReq len addr (r.take (len.toNat - 3))) := by
  simp [decodeFrameOut]

theorem decodeFrameOut_readReq (addr : VpAddr) (count : Byte) (r : List Byte) :
    decodeFrameOut (0xA5#8 :: 0x04#8 :: 0x83#8 :: (be16 addr ++ count :: r)) = .instr (.readReq addr count) := by
  simp [decodeFrameOut]

theorem decodeFrameIn_readReply (len : Byte) (r : List Byte) :
    decodeFrameIn (0xA5#8 :: len :: 0x83#8 :: r) = .instr (.readReply len (r.take (dataCount len))) := by
  simp [decodeFrameIn]

/-- The length law of R81. -/
theorem writeReqLawful_iff {len : Byte} {body : List Byte} :
    writeReqLawful len body = true ↔
      body.length % 2 = 0 ∧ 2 ≤ body.length ∧ body.length ≤ 252 ∧ len.toNat = body.length + 3 := by
  simp [writeReqLawful, and_assoc]

/-- Settles O8: each row's operands are read back by the reader of their form, and a frame's length says where its data ends. -/
theorem decodeGivesBackWhatIsEncoded : Obligations.DecodeGivesBackWhatIsEncoded := by
  intro i rest hwf
  cases i with
  | init n tx rx =>
    have hn : n % 65536 = n := Nat.mod_eq_of_lt (of_decide_eq_true hwf)
    simp [Instr.port, encode, decode, decodeHost, hn]
  | tick now => simp [Instr.port, encode, decode, decodeHost]
  | writeVp addr values now =>
    have hn : (BitVec.ofNat 8 values.length).toNat = values.length := Nat.mod_eq_of_lt (of_decide_eq_true hwf)
    simp only [Instr.port, encode, decode, decodeHost, List.cons_append, List.append_assoc]
    simp [hn, -BitVec.toNat_ofNat]
  | readVp addr count now => simp [Instr.port, encode, decode, decodeHost]
  | registerCb addr tag =>
    have ht : tag % 256 = tag := Nat.mod_eq_of_lt (of_decide_eq_true hwf)
    simp [Instr.port, encode, decode, decodeHost, ht]
  | isIdle => rfl
  | rbWrite idx byte =>
    have hn : idx % 65536 = idx := Nat.mod_eq_of_lt (of_decide_eq_true hwf)
    simp [Instr.port, encode, decode, decodeXport, hn]
  | rxProgress idx =>
    have hn : idx % 65536 = idx := Nat.mod_eq_of_lt (of_decide_eq_true hwf)
    simp [Instr.port, encode, decode, decodeXport, hn]
  | txDone => rfl
  | xportErr => rfl
  | writeReq len addr body =>
    obtain ⟨-, -, -, hlen⟩ := writeReqLawful_iff.1 hwf
    have hbody : len.toNat - 3 = body.length := by omega
    simp only [Instr.port, encode, frameBytes, List.cons_append, List.append_assoc]
    rw [decode_host_frame, decodeFrameOut_writeReq, hbody, List.take_left]
  | writeAck => rfl
  | readReq addr count =>
    simp only [Instr.port, encode, frameBytes, List.cons_append, List.append_assoc, List.nil_append]
    rw [decode_host_frame, decodeFrameOut_readReq]
  | readReply len data =>
    have hdata : data.length = dataCount len := eq_of_beq hwf
    simp only [Instr.port, encode, frameBytes, List.cons_append]
    rw [decode_xport_frame, decodeFrameIn_readReply, ← hdata, List.take_left]

/-- Settles O7: each of the words is the encoding of what it stands for. -/
theorem decodesTheSpecsOwnWords : Obligations.DecodesTheSpecsOwnWords :=
  ⟨decodeGivesBackWhatIsEncoded (.init 16 100#32 50#32) [] rfl, decodeGivesBackWhatIsEncoded (.tick 7#32) [] rfl,
    decodeGivesBackWhatIsEncoded (.writeVp 0x1000#16 [0x0064#16, 0x0032#16] 5#32) [] rfl,
    decodeGivesBackWhatIsEncoded (.rbWrite 3 0x5A#8) [] rfl, decodeGivesBackWhatIsEncoded .txDone [] rfl,
    decodeGivesBackWhatIsEncoded .writeAck [] rfl, decodeGivesBackWhatIsEncoded (.readReq 0x0016#16 0x03#8) [] rfl⟩

/-! ### What is read is an encoding -/

/-- `i` belongs to port `p`, and `bytes` begin with its encoding. -/
def BeginsWith (p : Port) (bytes : List Byte) (i : Instr) : Prop := i.port = p ∧ ∃ rest, bytes = encode i ++ rest

theorem decodeFrameOut_instr {r : List Byte} {i : Instr} (h : decodeFrameOut r = .instr i) : BeginsWith .host (0x5A#8 :: r) i := by
  unfold decodeFrameOut at h
  split at h
  · next a5 len fc r =>
    split_ifs at h with hwrite hread
    · obtain ⟨rfl, rfl⟩ := hwrite
      obtain ⟨addr, body, rfl, hi⟩ := withWord_instr h
      cases hi
      exact ⟨rfl, body.drop (len.toNat - 3), by simp [encode, frameBytes]⟩
    · obtain ⟨rfl, rfl, rfl⟩ := hread
      obtain ⟨addr, r', rfl, h1⟩ := withWord_instr h
      obtain ⟨count, rest, rfl, hi⟩ := withByte_instr h1
      cases hi
      exact ⟨rfl, rest, by simp [encode, frameBytes]⟩
  · cases h

theorem decodeFrameIn_instr {r : List Byte} {i : Instr} (h : decodeFrameIn r = .instr i) : BeginsWith .xport (0x5A#8 :: r) i := by
  unfold decodeFrameIn at h
  split at h
  · next a5 len fc r =>
    split_ifs at h with hack hreply
    · obtain ⟨rfl, rfl, rfl⟩ := hack
      obtain ⟨d0, r', rfl, h1⟩ := withByte_instr h
      obtain ⟨d1, rest, rfl, h2⟩ := withByte_instr h1
      split at h2
      · next hd => obtain ⟨rfl, rfl⟩ := hd; cases h2; exact ⟨rfl, rest, rfl⟩
      · cases h2
    · obtain ⟨rfl, rfl⟩ := hreply
      cases h
      exact ⟨rfl, r.drop (dataCount len), by simp [encode, frameBytes]⟩
  · cases h

theorem otherCode_ne_instr {b : Byte} {i : Instr} : otherCode b ≠ .instr i := by unfold otherCode; split <;> exact nofun

theorem decodeHost_instr {b : Byte} {r : List Byte} {i : Instr} (h : decodeHost b r = .instr i) : BeginsWith .host (b :: r) i := by
  unfold decodeHost at h
  split_ifs at h with hinit htick hwrite hread hreg hidle hframe
  · obtain ⟨n, r, rfl, h1⟩ := withWord_instr h
    obtain ⟨tx, r, rfl, h2⟩ := withTick_instr h1
    obtain ⟨rx, rest, rfl, h3⟩ := withTick_instr h2
    cases h3
    exact ⟨rfl, rest, by simp [encode, hinit]⟩
  · obtain ⟨now, rest, rfl, h1⟩ := withTick_instr h
    cases h1
    exact ⟨rfl, rest, by simp [encode, htick]⟩
  · obtain ⟨addr, r, rfl, h1⟩ := withWord_instr h
    obtain ⟨count, r, rfl, h2⟩ := withByte_instr h1
    obtain ⟨values, r, hlen, rfl, h3⟩ := withValues_instr h2
    obtain ⟨now, rest, rfl, h4⟩ := withTick_instr h3
    cases h4
    exact ⟨rfl, rest, by simp [encode, hwrite, hlen]⟩
  · obtain ⟨addr, r, rfl, h1⟩ := withWord_instr h
    obtain ⟨count, r, rfl, h2⟩ := withByte_instr h1
    obtain ⟨now, rest, rfl, h3⟩ := withTick_instr h2
    cases h3
    exact ⟨rfl, rest, by simp [encode, hread]⟩
  · obtain ⟨addr, r, rfl, h1⟩ := withWord_instr h
    obtain ⟨tag, rest, rfl, h2⟩ := withByte_instr h1
    cases h2
    exact ⟨rfl, rest, by simp [encode, hreg]⟩
  · cases h
    exact ⟨rfl, r, by simp [encode, hidle]⟩
  · rw [hframe]; exact decodeFrameOut_instr h
  · exact absurd h otherCode_ne_instr

theorem decodeXport_instr {b : Byte} {r : List Byte} {i : Instr} (h : decodeXport b r = .instr i) : BeginsWith .xport (b :: r) i := by
  unfold decodeXport at h
  split_ifs at h with hstore hprogress hdone herr hframe
  · obtain ⟨idx, r, rfl, h1⟩ := withWord_instr h
    obtain ⟨byte, rest, rfl, h2⟩ := withByte_instr h1
    cases h2
    exact ⟨rfl, rest, by simp [encode, hstore]⟩
  · obtain ⟨idx, rest, rfl, h1⟩ := withWord_instr h
    cases h1
    exact ⟨rfl, rest, by simp [encode, hprogress]⟩
  · cases h
    exact ⟨rfl, r, by simp [encode, hdone]⟩
  · cases h
    exact ⟨rfl, r, by simp [encode, herr]⟩
  · rw [hframe]; exact decodeFrameIn_instr h
  · exact absurd h otherCode_ne_instr

/-- Settles O9: each reader that succeeds has read what the encoder would have written. -/
theorem decodedBytesAreTheEncoding : Obligations.DecodedBytesAreTheEncoding := by
  intro p bytes i h
  cases bytes with
  | nil => cases p <;> cases h
  | cons b r =>
    cases p with
    | host => exact decodeHost_instr h
    | xport => exact decodeXport_instr h

/-! ### Codes that are no instruction of the port (R94) -/

/-- A code outside `1 .. 6` is no host command. -/
theorem decodeHost_reserved {op : Byte} (r : List Byte) (h16 : op.toNat < 16) (h : op.toNat = 0 ∨ 7 ≤ op.toNat) :
    decodeHost op r = .reserved := by
  have hne : ∀ c : Byte, (1 ≤ c.toNat ∧ c.toNat ≤ 6) ∨ 16 ≤ c.toNat → op ≠ c := by rintro c hc rfl; omega
  unfold decodeHost
  iterate 7 rw [if_neg (hne _ (by decide))]
  exact if_pos h16

/-- A code outside `8 .. 11` is no transport event. -/
theorem decodeXport_reserved {op : Byte} (r : List Byte) (h16 : op.toNat < 16) (h : op.toNat < 8 ∨ 12 ≤ op.toNat) :
    decodeXport op r = .reserved := by
  have hne : ∀ c : Byte, (8 ≤ c.toNat ∧ c.toNat ≤ 11) ∨ 16 ≤ c.toNat → op ≠ c := by rintro c hc rfl; omega
  unfold decodeXport
  iterate 5 rw [if_neg (hne _ (by decide))]
  exact if_pos h16

end Sys2Proof
end

section
/-! SUPPORT. Offers that show a reserved code or a code of the other port (R94). Settles the statement about them. -/

namespace Sys2Proof.Machine

/-- Serving a port leaves the other port's offers. -/
theorem State.consume_offers_other (s : State) {p q : Port} (h : q ≠ p) : (s.consume p).offers q = s.offers q := by
  have hdrop : (s.useGrant.dropOffer p).offers q = s.useGrant.offers q := by
    cases p <;> cases q
    · exact absurd rfl h
    · rfl
    · rfl
    · exact absurd rfl h
  exact hdrop.trans (s.useGrant_offers q)

/-- The oldest offer taken, the rest still wait. -/
theorem State.consume_offers_rest {s : State} {p : Port} {o : Offer} {rest : List Offer} (ho : s.offers p = o :: rest) :
    (s.consume p).offers p = rest := by
  rw [State.consume_offers_same, ho, List.tail_cons]

/-- A step with an offer that decodes as reserved does what R94 says, from the state without that offer. -/
theorem step_reserved {s : State} {p : Port} {o : Offer} {rest : List Offer} (hr : s.rst = false) (hg : s.granted = some p)
    (ho : s.offers p = o :: rest) (hd : decodeOffer p o = .reserved) : step s = .next ((s.consume p).reservedCode p) := by
  rw [← State.offered_eq_of_offers ho] at hd
  simp [step, hr, hg, hd]

/-- Settles O6: such an offer decodes as reserved in either form, and serving the port takes it and no element of the block. -/
theorem reservedCodesChangeNothing : Obligations.ReservedCodesChangeNothing := by
  intro s o rest hr
  refine ⟨fun hg ho hform => ?_, fun hg ho hform => ?_⟩
  · have hd : decodeOffer .host o = .reserved := by
      obtain ⟨op, r, rfl, h16, hop⟩ | ⟨i, rfl, hf, hp⟩ := hform
      · exact decodeHost_reserved r h16 hop
      · exact decodeOffer_reserved (by rw [hp]; decide) hf
    exact ⟨_, step_reserved hr hg ho hd, rfl, rfl, by simp, State.consume_offers_rest (p := .host) ho,
      s.consume_offers_other (q := .xport) (p := .host) nofun⟩
  · have hd : decodeOffer .xport o = .reserved := by
      obtain ⟨op, r, rfl, h16, hop⟩ | ⟨i, rfl, hf, hp⟩ := hform
      · exact decodeXport_reserved r h16 hop
      · exact decodeOffer_reserved (by rw [hp]; decide) hf
    exact ⟨_, step_reserved hr hg ho hd, rfl, rfl, by simp, State.consume_offers_rest (p := .xport) ho,
      s.consume_offers_other (q := .host) (p := .xport) nofun⟩

end Sys2Proof.Machine
end

section
/-! SUPPORT. The parser reading one frame byte by byte (R80, R85, R130 to R136): what it holds after the first `k` bytes, whatever ticks they
come in. Settles the statement that a frame fed is a frame held. -/

namespace Sys2Proof.Machine

/-! ### One data byte (R135) -/

theorem State.rxFeed_params (s : State) (b : Byte) (now : Tick) : (s.rxFeed b now).params = s.params := by
  rw [State.rxFeed_frame]

/-- The slots after a data byte: its own if there is one, the others as before. -/
theorem State.rxByte_rxFeed_data {s : State} {b : Byte} {now : Tick} (hr : s.rxState = .waitingData) (j : Nat) :
    (s.rxFeed b now).rxByte j = if j = 4 + s.rxReceived.toNat ∧ j < s.params.rxCap then b else s.rxByte j := by
  rw [State.rxFeed_data b hr]
  by_cases hcap : 4 + s.rxReceived.toNat < s.params.rxCap
  · rw [if_pos hcap]
    refine (s.rxByte_putRx (4 + s.rxReceived.toNat) j b).trans ?_
    by_cases hj : j = 4 + s.rxReceived.toNat
    · rw [if_pos hj, if_pos ⟨hj, hj ▸ hcap⟩]
    · rw [if_neg hj, if_neg fun h => hj h.1]
  · have hno : ¬ (j = 4 + s.rxReceived.toNat ∧ j < s.params.rxCap) := fun ⟨hj, hlt⟩ => hcap (hj ▸ hlt)
    rw [if_neg hcap, if_neg hno]
    rfl

/-! ### A frame half read -/

/-- The parser has the length and function code of a frame begun at tick `start`, and the first `k` bytes of its data. -/
structure State.HoldsData (s : State) (len fc : Byte) (data : List Byte) (start : Tick) (k : Nat) : Prop where
  expected : s.rxExpected = len - 1#8
  received : s.rxReceived.toNat = k
  hdr1 : s.rxHdr1 = false
  startTick : s.rxStartTick = start
  length : s.rxByte 2 = len
  functionCode : s.rxByte 3 = fc
  slots : ∀ j < k, 4 + j < s.params.rxCap → data[j]? = some (s.rxByte (4 + j))

/-- The parser has read the first `k` bytes of `5A A5 LEN FC data`, the second of them at tick `start`. -/
def State.HasRead (s : State) (len fc : Byte) (data : List Byte) (start : Tick) : Nat → Prop
  | 0 => s.rxState = .waitingHeader
  | 1 => s.rxState = .waitingHeader ∧ s.rxHdr1 = true
  | 2 => s.rxState = .waitingLength ∧ s.rxHdr1 = false ∧ s.rxStartTick = start
  | 3 => s.rxState = .waitingFunctionCode ∧ s.rxHdr1 = false ∧ s.rxStartTick = start ∧ s.rxByte 2 = len
  | k + 4 => s.HoldsData len fc data start k ∧
      s.rxState = if k ≠ 0 ∧ k = data.length then .dataReceived else .waitingData

section
variable {s : State} {len fc : Byte} {data : List Byte} {start now : Tick}

theorem State.HoldsData.rxFeed {k : Nat} {b : Byte} (h : s.HoldsData len fc data start k) (hr : s.rxState = .waitingData)
    (hdata : data.length = dataCount len) (hb : data[k]? = some b) :
    (s.rxFeed b now).HoldsData len fc data start (k + 1) ∧
      (s.rxFeed b now).rxState = if k + 1 = data.length then .dataReceived else .waitingData := by
  have hk : k < data.length := (List.getElem?_eq_some_iff.1 hb).1
  have hcount : data.length = s.rxExpected.toNat := by rw [h.expected]; exact hdata
  have hnext : (s.rxReceived + 1#8).toNat = k + 1 := by
    have := h.received; have := s.rxExpected.isLt
    rw [BitVec.toNat_add]; simp only [BitVec.toNat_ofNat]; omega
  have hbyte := State.rxByte_rxFeed_data (b := b) (now := now) hr
  rw [h.received] at hbyte
  have hlast : s.rxReceived + 1#8 = s.rxExpected ↔ k + 1 = data.length := by
    rw [← BitVec.toNat_inj, hnext, hcount]
  refine ⟨⟨?_, ?_, ?_, ?_, ?_, ?_, fun j hj hcap => ?_⟩, ?_⟩
  · rw [State.rxFeed_data b hr]; exact h.expected
  · rw [State.rxFeed_data b hr]; exact hnext
  · rw [State.rxFeed_data b hr]; exact h.hdr1
  · rw [State.rxFeed_data b hr]; exact h.startTick
  · rw [hbyte, if_neg (by omega)]; exact h.length
  · rw [hbyte, if_neg (by omega)]; exact h.functionCode
  · rw [State.rxFeed_params] at hcap
    rw [hbyte]
    rcases Nat.lt_succ_iff_lt_or_eq.1 hj with hj | rfl
    · rw [if_neg (by omega)]; exact h.slots j hj hcap
    · rw [if_pos ⟨rfl, hcap⟩]; exact hb
  · rw [State.rxFeed_data b hr]
    exact if_congr hlast rfl rfl

/-- The next byte of the frame, read (R132 to R135). -/
theorem State.HasRead.rxFeed {k : Nat} {b : Byte} (h : s.HasRead len fc data start k) (hdata : data.length = dataCount len)
    (hb : (frameBytes len fc data)[k]? = some b) (hstart : k = 1 → now = start) :
    (s.rxFeed b now).HasRead len fc data start (k + 1) := by
  match k, h with
  | 0, hr =>
    obtain rfl : 0x5A#8 = b := Option.some.inj hb
    rw [State.rxFeed_first hr]
    exact ⟨hr, rfl⟩
  | 1, ⟨hr, h1⟩ =>
    obtain rfl : 0xA5#8 = b := Option.some.inj hb
    rw [State.rxFeed_second hr h1]
    exact ⟨rfl, rfl, hstart rfl⟩
  | 2, ⟨hr, h1, hs⟩ =>
    obtain rfl : len = b := Option.some.inj hb
    rw [State.rxFeed_length _ hr]
    exact ⟨rfl, h1, hs, (s.rxByte_putRx 2 2 len).trans (if_pos rfl)⟩
  | 3, ⟨hr, h1, hs, hlen⟩ =>
    obtain rfl : fc = b := Option.some.inj hb
    rw [State.rxFeed_functionCode _ hr]
    exact ⟨⟨congrArg (· - 1#8) hlen, rfl, h1, hs, (s.rxByte_putRx 3 2 fc).trans hlen, (s.rxByte_putRx 3 3 fc).trans (if_pos rfl),
      fun j hj => absurd hj j.not_lt_zero⟩, rfl⟩
  | k + 4, ⟨hd, hr⟩ =>
    have hb : data[k]? = some b := hb
    have hk : k < data.length := (List.getElem?_eq_some_iff.1 hb).1
    rw [if_neg (by omega)] at hr
    obtain ⟨hd', hr'⟩ := hd.rxFeed (now := now) hr hdata hb
    exact ⟨hd', by rw [hr']; exact if_congr (by omega) rfl rfl⟩

end

/-! ### A frame fed at one tick (R130) -/

theorem State.feedAll_params (s : State) (now : Tick) (bs : List Byte) : (s.feedAll now bs).params = s.params := by
  induction bs generalizing s with
  | nil => rfl
  | cons b bs ih => exact (ih (s.rxFeed b now)).trans (s.rxFeed_params b now)

/-- Fed the first `k` bytes of a frame, the parser has read them. -/
theorem State.feedAll_hasRead {s : State} {len fc : Byte} {data : List Byte} (now : Tick) (hr : s.rxState = .waitingHeader)
    (hdata : data.length = dataCount len) (k : Nat) (hk : k ≤ (frameBytes len fc data).length) :
    (s.feedAll now ((frameBytes len fc data).take k)).HasRead len fc data now k := by
  induction k with
  | zero => exact hr
  | succ k ih =>
    have hlt : k < (frameBytes len fc data).length := hk
    have hfeed : s.feedAll now ((frameBytes len fc data).take (k + 1)) =
        (s.feedAll now ((frameBytes len fc data).take k)).rxFeed (frameBytes len fc data)[k] now := by
      rw [← List.take_concat_get' _ _ hlt, State.feedAll, List.foldl_append]
      rfl
    rw [hfeed]
    exact (ih hlt.le).rxFeed hdata (List.getElem?_eq_getElem hlt) fun _ => rfl

/-- A run of data bytes that are held in slots, read back from the buffer. -/
theorem State.HoldsData.rxSlice {s : State} {len fc : Byte} {data : List Byte} {start : Tick} {k i n : Nat}
    (h : s.HoldsData len fc data start k) (hk : i + n ≤ k) (hcap : 4 + i + n ≤ s.params.rxCap) :
    s.rxSlice (4 + i) n = (data.drop i).take n := by
  apply List.ext_getElem?
  intro j
  rw [State.rxSlice, List.getElem?_map]
  by_cases hj : j < n
  · rw [List.getElem?_range hj, List.getElem?_take_of_lt hj, List.getElem?_drop, h.slots (i + j) (by omega) (by omega), ← add_assoc]
    rfl
  · rw [List.getElem?_eq_none (by simp; omega), List.getElem?_eq_none (by simp; omega)]
    rfl

/-- The data bytes that are stored, read back (R34). -/
theorem State.HoldsData.rxSlice_stored {s : State} {len fc : Byte} {data : List Byte} {start : Tick}
    (h : s.HoldsData len fc data start data.length) (hdata : data.length = dataCount len) (hcap : 4 ≤ s.params.rxCap) :
    s.rxSlice 4 s.rxStored = data.take (s.params.rxCap - 4) := by
  have hstored : s.rxStored = min data.length (s.params.rxCap - 4) := by
    rw [hdata, State.rxStored, h.expected]; rfl
  rw [hstored]
  refine (h.rxSlice (i := 0) (by omega) (by omega)).trans ?_
  rw [List.drop_zero, List.take_eq_take_iff]
  omega

/-- Settles O23: after the whole frame the parser holds all its data, by induction over the bytes fed. -/
theorem parserRebuildsEveryFrame : Obligations.ParserRebuildsEveryFrame := by
  intro s now len fc data hr hcap hdata t
  have hread := State.feedAll_hasRead (fc := fc) now hr hdata (data.length + 4) (le_refl (data.length + 4))
  rw [List.take_of_length_le (le_refl (data.length + 4))] at hread
  obtain ⟨hd, hstate⟩ : t.HasRead len fc data now (data.length + 4) := hread
  have hexp : t.rxExpected.toNat = data.length := by rw [hd.expected]; exact hdata.symm
  have hparams : t.params = s.params := s.feedAll_params now _
  refine ⟨?_, hexp, ?_, hd.hdr1, hd.startTick, hd.length, hd.functionCode, ?_⟩
  · by_cases h0 : data.length = 0
    · rw [hstate, if_neg (by omega), if_pos h0]
    · rw [hstate, if_pos ⟨h0, rfl⟩, if_neg h0]
  · exact BitVec.eq_of_toNat_eq (hd.received.trans hexp.symm)
  · rw [hd.rxSlice_stored hdata (by rw [hparams]; omega), hparams]

end Sys2Proof.Machine
end

section
/-! SUPPORT. The bytes of a received frame in the ring (R101): where `RXBYTES` stores them, and what it leaves. Settles the statement about the two
frames the display sends. -/

namespace Sys2Proof.Machine

/-- Distinct offsets less than `N` apart are distinct indices of the ring. -/
theorem ringIndex_ne {n : Nat} {h : Int} {j k : Nat} (hjk : j < k) (hk : k < j + n) :
    ((h + (k : Int)) % (n : Int)).toNat ≠ ((h + (j : Int)) % (n : Int)).toNat := by
  have hn : (0 : Int) < n := by omega
  intro he
  have hmod : h + (k : Int) ≡ h + (j : Int) [ZMOD n] := by
    have h1 := Int.emod_nonneg (h + (k : Int)) hn.ne'
    have h2 := Int.emod_nonneg (h + (j : Int)) hn.ne'
    show (h + (k : Int)) % (n : Int) = (h + (j : Int)) % (n : Int)
    omega
  have hdvd : (n : Int) ∣ (k : Int) - j := (Int.modEq_iff_dvd.1 (Int.ModEq.add_left_cancel' h hmod.symm))
  have := Int.le_of_dvd (by omega) hdvd
  omega

/-- `bs` written to the ring of capacity `n`, at the indices after `h` (R101). -/
def Memory.writeRing (n : Nat) : Memory → Int → List Byte → Memory
  | m, _, [] => m
  | m, h, b :: bs => Memory.writeRing n (Memory.write m ((h + 1) % (n : Int)).toNat b) (h + 1) bs

/-- An index that is none of the run's reads as before. -/
theorem Memory.read_writeRing_other {n : Nat} {m : Memory} {h : Int} {bs : List Byte} {x : Nat}
    (hx : ∀ j < bs.length, x ≠ ((h + 1 + (j : Int)) % (n : Int)).toNat) :
    (Memory.writeRing n m h bs).read x = Memory.read m x := by
  induction bs generalizing m h with
  | nil => rfl
  | cons b bs ih =>
    have htail : ∀ j < bs.length, x ≠ ((h + 1 + 1 + (j : Int)) % (n : Int)).toNat := fun j hj => by
      have := hx (j + 1) (Nat.succ_lt_succ hj)
      rwa [show h + 1 + ((j + 1 : Nat) : Int) = h + 1 + 1 + (j : Int) by push_cast; ring] at this
    have hhead : x ≠ ((h + 1) % (n : Int)).toNat := by simpa using hx 0 (Nat.succ_pos _)
    exact (ih htail).trans (Memory.read_write_other m b hhead)

/-- A run no longer than the ring: each byte reads at its index. -/
theorem Memory.read_writeRing {n : Nat} {m : Memory} {h : Int} {bs : List Byte} (hn : bs.length ≤ n) {j : Nat} (hj : j < bs.length) :
    (Memory.writeRing n m h bs).read ((h + 1 + (j : Int)) % (n : Int)).toNat = bs[j]? := by
  induction bs generalizing m h j with
  | nil => exact absurd hj j.not_lt_zero
  | cons b bs ih =>
    rw [List.length_cons] at hn hj
    cases j with
    | zero =>
      have hother : ∀ i < bs.length,
          ((h + 1 + ((0 : Nat) : Int)) % (n : Int)).toNat ≠ ((h + 1 + 1 + (i : Int)) % (n : Int)).toNat := fun i hi => by
        have := ringIndex_ne (n := n) (h := h + 1) (j := 0) (k := i + 1) (by omega) (by omega)
        rw [show h + 1 + ((i + 1 : Nat) : Int) = h + 1 + 1 + (i : Int) by push_cast; ring] at this
        exact this.symm
      refine (Memory.read_writeRing_other hother).trans ?_
      rw [Nat.cast_zero, add_zero, Memory.read_write_same]
      rfl
    | succ j =>
      have := ih (m := Memory.write m ((h + 1) % (n : Int)).toNat b) (h := h + 1) (by omega) (Nat.lt_of_succ_lt_succ hj)
      rwa [show h + 1 + 1 + (j : Int) = h + 1 + ((j + 1 : Nat) : Int) by push_cast; ring] at this

/-- `RXBYTES` in an initialised block: the bytes written, then the last index published (R101). -/
theorem State.receiveFrom_eq {s : State} (hl : s.link ≠ .uninit) (hN : 0 < s.cfgN) (h : Int) (bs : List Byte) :
    s.receiveFrom h bs =
      State.publish { s with rbMem := Memory.writeRing s.cfgN s.rbMem h bs } ((h + (bs.length : Int)) % (s.cfgN : Int)).toNat := by
  induction bs generalizing s h with
  | nil => simp only [State.receiveFrom, Memory.writeRing, List.length_nil, Nat.cast_zero, add_zero]
  | cons b bs ih =>
    have hidx : ((h + 1) % (s.cfgN : Int)).toNat < s.cfgN := by
      have := Int.emod_lt_of_pos (h + 1) (b := (s.cfgN : Int)) (by omega); omega
    have hlast : h + 1 + (bs.length : Int) = h + ((b :: bs).length : Int) := by rw [List.length_cons]; push_cast; ring
    have hrest := ih (s := { s with rbMem := s.rbMem.write ((h + 1) % (s.cfgN : Int)).toNat b }) hl hN (h + 1)
    rw [hlast] at hrest
    rw [State.receiveFrom, State.storeByte_taken b hl hidx]
    exact hrest

/-- What `RXBYTES` does to an initialised block (R101, R112): everything it writes, as one update. -/
theorem State.receive_eq {s : State} (hl : s.link ≠ .uninit) (hN : 0 < s.cfgN) (bs : List Byte) :
    s.receive bs = { s with
      rbMem := Memory.writeRing s.cfgN s.rbMem s.rbHead bs
      rbHead := (s.rbHead + (bs.length : Int)) % (s.cfgN : Int)
      rbOvf := s.rbOvf || s.overflows ((s.rbHead + (bs.length : Int)) % (s.cfgN : Int)).toNat } := by
  have h0 := Int.emod_nonneg (s.rbHead + (bs.length : Int)) (b := (s.cfgN : Int)) (by omega)
  have h1 := Int.emod_lt_of_pos (s.rbHead + (bs.length : Int)) (b := (s.cfgN : Int)) (by omega)
  have hpub := State.publish_taken (s := { s with rbMem := Memory.writeRing s.cfgN s.rbMem s.rbHead bs }) hl
    (i := ((s.rbHead + (bs.length : Int)) % (s.cfgN : Int)).toNat) (by dsimp only; omega)
  rw [Int.toNat_of_nonneg h0] at hpub
  exact (State.receiveFrom_eq hl hN _ bs).trans hpub

/-- The two frames the display sends are run as the reception of their bytes (R82, R84). -/
theorem exec_displayFrame {i : Instr} {bytes : List Byte}
    (h : (i = .writeAck ∧ bytes = [0x5A#8, 0xA5#8, 0x03#8, 0x82#8, 0x4F#8, 0x4B#8]) ∨
      (∃ len data, i = .readReply len data ∧ bytes = [0x5A#8, 0xA5#8, len, 0x83#8] ++ data)) (s : State) :
    exec i s = .next (s.takeOp.receive bytes) := by
  obtain ⟨rfl, rfl⟩ | ⟨len, data, rfl, rfl⟩ := h
  · exact exec_writeAck s
  · rfl

/-- Settles O16: both frames are `RXBYTES` of their bytes, whose writes are known byte by byte. -/
theorem receivedFrameLandsInTheRing : Obligations.ReceivedFrameLandsInTheRing := by
  intro s i bytes hform
  rw [exec_displayFrame hform s]
  refine ⟨fun hl => ?_, fun hl hN => ⟨_, rfl, ?_⟩⟩
  · rw [State.receive, State.receiveFrom_uninit _ bytes (s := s.takeOp) hl]; rfl
  · rw [State.receive_eq (s := s.takeOp) hl hN]
    exact ⟨rfl, rfl, fun hn j hj => Memory.read_writeRing hn hj, fun x hx => Memory.read_writeRing_other hx, rfl⟩

end Sys2Proof.Machine
end

section
/-! SUPPORT. The frames the block sends (R81, R83, R150, R155): their bytes as encodings of the frame's own instruction, and the request that sends
them, whole. Settles the statements about `WRITE_REQ`, `READ_REQ` and about reading back what `WRITE_VP` offers. -/

namespace Sys2Proof.Machine

/-! ### The bytes of a request's frame -/

theorem bodyValues_be16 (values : List Value) : bodyValues (values.flatMap be16) = values := by
  induction values with
  | nil => rfl
  | cons v values ih => simp [be16, bodyValues, ih]

/-- A body of whole values is the values' bytes (R64). -/
theorem flatMap_bodyValues {body : List Byte} (h : body.length % 2 = 0) : (bodyValues body).flatMap be16 = body := by
  induction body using bodyValues.induct with
  | case1 hi lo r ih =>
    have hr : r.length % 2 = 0 := by simp only [List.length_cons] at h; omega
    simp [bodyValues, ih hr]
  | case2 body hb =>
    match body, hb with
    | [], _ => rfl
    | [_], _ => simp at h
    | hi :: lo :: r, hb => exact absurd rfl (hb hi lo r)

/-- R150 builds the encoding of the write request with the same address and values. -/
theorem writeFrame_eq_encode (addr : VpAddr) (values : List Value) :
    writeFrame addr values =
      encode (.writeReq (BitVec.ofNat 8 (2 * values.length + 3)) addr (values.flatMap be16)) := rfl

/-- R155 builds the encoding of the read request. -/
theorem readFrame_eq_encode (addr : VpAddr) (count : Byte) : readFrame addr count = encode (.readReq addr count) := rfl

/-- The length byte of a legal write: `2*count + 3`, which fits a byte (R72, R81). -/
theorem toNat_writeLen {n : Nat} (h : n ≤ 126) : (BitVec.ofNat 8 (2 * n + 3)).toNat = 2 * n + 3 :=
  Nat.mod_eq_of_lt (by omega)

/-- A lawful write request is rebuilt byte by byte from its values (R81, R150). -/
theorem writeFrame_bodyValues {len : Byte} {body : List Byte} (addr : VpAddr) (h : writeReqLawful len body = true) :
    writeFrame addr (bodyValues body) = encode (.writeReq len addr body) := by
  obtain ⟨heven, -, hmax, hlen⟩ := writeReqLawful_iff.1 h
  have hn : 2 * (bodyValues body).length + 3 = body.length + 3 := by rw [length_bodyValues]; omega
  have hbyte : BitVec.ofNat 8 (2 * (bodyValues body).length + 3) = len := by
    rw [hn, ← hlen, BitVec.ofNat_toNat, BitVec.setWidth_eq]
  rw [writeFrame_eq_encode, hbyte, flatMap_bodyValues heven]

/-- The argument check of `WRITE_REQ` (R81, R150; assumption 7): the law, and the frame fits the buffer. -/
theorem writeReqArgs_iff {txCap : Nat} {len : Byte} {body : List Byte} :
    (writeReqLawful len body && writeArgsOk txCap (body.length / 2)) = true ↔
      writeReqLawful len body = true ∧ body.length + 6 ≤ txCap := by
  rw [Bool.and_eq_true]
  refine and_congr_right fun h => ?_
  obtain ⟨heven, hmin, hmax, -⟩ := writeReqLawful_iff.1 h
  simp only [writeArgsOk, Bool.and_eq_true, bne_iff_ne, decide_eq_true_eq]
  omega

/-! ### The request with legal arguments, whole (R150, R153, R155) -/

/-- `t` is what a request from `s` that builds `frame` leaves: the frame built and offered, and by the transport's answer a transaction opened
at tick `now` or none. -/
structure State.Sent (s : State) (frame : List Byte) (sending : TxState) (now : Tick) (t : State) : Prop where
  outs : t.outs = [.xpTxStart frame]
  txLen : t.txLen = frame.length
  built : ∀ k, k < frame.length → t.txFb.read k = frame[k]?
  kept : ∀ k, frame.length ≤ k → t.txFb.read k = s.txFb.read k
  accepted : s.nextAnswer = true → t = { s.popAnswer with
    txFb := t.txFb, txLen := t.txLen, txSendTick := now, txState := sending, answer := some ⟨.ok, none⟩, outs := t.outs }
  refused : s.nextAnswer = false → t = { s.popAnswer with
    txFb := t.txFb, txLen := t.txLen, answer := some ⟨.xportErr, none⟩, outs := t.outs }

theorem State.request_sent {s : State} (frame : List Byte) (sending : TxState) (now : Tick) (hl : s.link = .operational)
    (hi : s.txState = .idle) : s.Sent frame sending now (s.takeOp.request true frame sending now) := by
  have hbuilt : ∀ k, k < frame.length → (s.txFb.writeAll 0 frame).read k = frame[k]? := fun k hk => by
    rw [Memory.read_writeAll, if_pos ⟨k.zero_le, by omega⟩, Nat.sub_zero]
  have hkept : ∀ k, frame.length ≤ k → (s.txFb.writeAll 0 frame).read k = s.txFb.read k := fun k hk => by
    rw [Memory.read_writeAll, if_neg (by omega)]
  have hpop : ((s.takeOp.buildTx frame).emit (.xpTxStart frame)).popAnswer =
      { s.popAnswer with
        txFb := s.txFb.writeAll 0 frame, txLen := frame.length, answer := none, outs := [.xpTxStart frame] } := by
    simp only [State.popAnswer_eq]; rfl
  rw [State.request_offered (s := s.takeOp) hl hi, hpop, State.nextAnswer_takeOp]
  cases hb : s.nextAnswer with
  | true => exact ⟨rfl, rfl, hbuilt, hkept, fun _ => rfl, fun h => nomatch hb.symm.trans h⟩
  | false => exact ⟨rfl, rfl, hbuilt, hkept, fun h => (nomatch hb.symm.trans h), fun _ => rfl⟩

/-- The same with the send tick left open. -/
theorem State.Sent.accepted_open {s t : State} {frame : List Byte} {sending : TxState} {now : Tick} (h : s.Sent frame sending now t)
    (ha : s.nextAnswer = true) : t = { s.popAnswer with
      txFb := t.txFb, txLen := t.txLen, txSendTick := t.txSendTick, txState := sending
      answer := some ⟨.ok, none⟩, outs := t.outs } := by
  have htick : t.txSendTick = now := congrArg State.txSendTick (h.accepted ha)
  rw [htick]
  exact h.accepted ha

/-! ### The statements -/

/-- Settles O29: the frame built is the encoding of a lawful write request, which decodes to it. -/
theorem offeredWriteFrameReadsBack : Obligations.OfferedWriteFrameReadsBack := by
  intro s addr values now hl hi h0 hmax hfits
  have hargs : writeArgsOk s.params.txCap values.length = true := by
    simp only [writeArgsOk, Bool.and_eq_true, bne_iff_ne, decide_eq_true_eq]
    exact ⟨⟨h0, hmax⟩, hfits⟩
  have hlen := toNat_writeLen hmax
  have hwf : (Instr.writeReq (BitVec.ofNat 8 (2 * values.length + 3)) addr (values.flatMap be16)).wf = true := by
    refine writeReqLawful_iff.2 ?_
    rw [length_flatMap_be16, hlen]
    omega
  have hdec := decodeGivesBackWhatIsEncoded _ [] hwf
  rw [List.append_nil, ← writeFrame_eq_encode] at hdec
  refine ⟨_, _, _, _, rfl, ?_, hdec, hwf, bodyValues_be16 values, hlen⟩
  rw [hargs]
  exact (State.request_sent _ _ now hl hi).outs

/-- `WRITE_REQ` with its argument check done: the request of R150, at a free `now` (assumption 5). -/
theorem exec_writeReq {s : State} {len : Byte} {addr : VpAddr} {body : List Byte} {argsOk : Bool}
    (h : (writeReqLawful len body && writeArgsOk s.params.txCap (body.length / 2)) = argsOk) :
    exec (.writeReq len addr body) s = .next
      (s.drawFree.takeOp.request argsOk (writeFrame addr (bodyValues body)) .sendingWrite (Config.freeNow s.draws)) := by
  rw [← h]; rfl

/-- Settles O30: the request behind `WRITE_REQ` is refused test by test, or rebuilds exactly the frame's own bytes. -/
theorem writeReqSendsItsOwnBytes : Obligations.WriteReqSendsItsOwnBytes := by
  intro s len addr body
  refine ⟨fun hl => ?_, fun hl hb => ?_, fun hl hi => ⟨fun hwf hfits => ?_, fun hbad => ?_⟩⟩
  · rw [exec_writeReq rfl, State.request_notReady (s := s.drawFree.takeOp) hl]; rfl
  · rw [exec_writeReq rfl, State.request_busy (s := s.drawFree.takeOp) hl hb]; rfl
  · have hsent := State.request_sent (s := s.drawFree) (encode (.writeReq len addr body)) .sendingWrite (Config.freeNow s.draws) hl hi
    have hlen : (encode (.writeReq len addr body)).length = body.length + 6 := rfl
    rw [exec_writeReq (writeReqArgs_iff.2 ⟨hwf, hfits⟩), writeFrame_bodyValues addr hwf, ← hlen]
    exact ⟨_, rfl, hsent.outs, hsent.txLen, hsent.built, hsent.kept, hsent.accepted_open, hsent.refused⟩
  · have hargs : (writeReqLawful len body && writeArgsOk s.params.txCap (body.length / 2)) = false := by
      refine Bool.eq_false_iff.2 fun h => ?_
      obtain ⟨hlaw, hfits⟩ := writeReqArgs_iff.1 h
      rcases hbad with hwf | hcap
      · exact nomatch hlaw.symm.trans hwf
      · omega
    rw [exec_writeReq hargs, State.request_invalid (s := s.drawFree.takeOp) hl hi]; rfl

/-- `READ_REQ` with its argument check done: the request of R155, at a free `now` (assumption 5). -/
theorem exec_readReq {s : State} {addr : VpAddr} {count : Byte} {argsOk : Bool} (h : readArgsOk count = argsOk) :
    exec (.readReq addr count) s = .next
      (s.drawFree.takeOp.request argsOk (encode (.readReq addr count)) .sendingRead (Config.freeNow s.draws)) := by
  rw [← h]; rfl

/-- Settles O31: the request behind `READ_REQ` is refused test by test, or builds exactly the frame's own bytes. -/
theorem readReqSendsItsOwnBytes : Obligations.ReadReqSendsItsOwnBytes := by
  intro s addr count
  refine ⟨fun hl => ?_, fun hl hb => ?_, fun hl hi => ⟨fun hcount => ?_, fun hcount => ?_⟩⟩
  · rw [exec_readReq rfl, State.request_notReady (s := s.drawFree.takeOp) hl]; rfl
  · rw [exec_readReq rfl, State.request_busy (s := s.drawFree.takeOp) hl hb]; rfl
  · have hsent := State.request_sent (s := s.drawFree) (encode (.readReq addr count)) .sendingRead (Config.freeNow s.draws) hl hi
    rw [exec_readReq (bne_iff_ne.2 hcount)]
    exact ⟨_, rfl, hsent.outs, hsent.txLen, hsent.built, hsent.kept, hsent.accepted_open, hsent.refused⟩
  · rw [exec_readReq (show readArgsOk count = false by rw [hcount]; rfl), State.request_invalid (s := s.drawFree.takeOp) hl hi]; rfl

end Sys2Proof.Machine
end

section
/-! SUPPORT. What a completed frame does (R95, R166, R183, R199), for each class of frame. Settles the statement about them. -/

namespace Sys2Proof.Machine

/-! ### The callback a frame fires, and the move it makes -/

theorem State.fired_of_not_reply {s : State} (h : s.rxByte 3 ≠ 0x83#8) : s.fired = [] := if_neg fun hr => h hr.1

theorem State.fired_of_short {s : State} (h : s.rxExpected.toNat < 3) : s.fired = [] := if_neg fun hr => absurd hr.2 (by omega)

/-- A read reply with three or more data bytes fires the slot the scan of R183 finds. -/
theorem State.fired_of_lookup {s : State} (hfc : s.rxByte 3 = 0x83#8) (h3 : 3 ≤ s.rxExpected.toNat) {i : Nat} {c : CbSlot}
    (hl : cbLookup s.replyAddr 0 s.cbs = some (i, c)) : s.fired = [s.fireOutput i c] := by
  rw [State.fired, if_pos ⟨hfc, h3⟩, hl]

/-- Nothing fires where the scan finds nothing. -/
theorem State.fired_of_lookup_none {s : State} (hl : cbLookup s.replyAddr 0 s.cbs = none) : s.fired = [] := by
  rw [State.fired, hl]; exact ite_self _

theorem State.fired_of_watched {s : State} (hfc : s.rxByte 3 = 0x83#8) (h3 : 3 ≤ s.rxExpected.toNat) {i : Nat} {c : CbSlot}
    (hi : s.cbs[i]? = some c) (ha : c.addr = s.replyAddr) (hfirst : ∀ j d, j < i → s.cbs[j]? = some d → d.addr ≠ s.replyAddr) :
    s.fired = [s.fireOutput i c] := by
  refine State.fired_of_lookup hfc h3 ?_
  rw [cbLookup_first hi ha hfirst, Nat.zero_add]

theorem TxState.closeRead_of_ne {t : TxState} (h : t ≠ .awaitingReadReply) : t.closeRead = t := by
  cases t
  case awaitingReadReply => exact absurd rfl h
  all_goals rfl

theorem State.holdsAck_iff {s : State} :
    s.holdsAck = true ↔ s.rxByte 3 = 0x82#8 ∧ s.rxExpected = 2#8 ∧ s.rxByte 4 = 0x4F#8 ∧ s.rxByte 5 = 0x4B#8 := by
  simp [State.holdsAck, and_assoc]

theorem State.routedTx_of_reply {s : State} (h : s.rxByte 3 = 0x83#8) : s.routedTx = s.txState.closeRead := if_pos h

theorem State.routedTx_of_not_reply {s : State} (h : s.rxByte 3 ≠ 0x83#8) :
    s.routedTx = if s.holdsAck = true ∧ s.txState = .awaitingWriteAck then .writeAckReceived else s.txState := if_neg h

/-- Settles O35: step 4 of a tick is known whole; what it fires and where it moves `tx_state` follows the class of the frame. -/
theorem completedFrameIsRoutedByClass : Obligations.CompletedFrameIsRoutedByClass := by
  intro s hd t a plen
  have ht : t = { s with
      rxState := .waitingHeader, rxHdr1 := false, txState := s.routedTx
      outs := s.outs ++ .frameDone (s.rxByte 3) s.rxExpected :: s.fired } := State.completeFrame_eq hd
  have htx : t.txState = s.routedTx := by rw [ht]
  have houts : t.outs = s.outs ++ .frameDone (s.rxByte 3) s.rxExpected :: s.fired := by rw [ht]
  refine ⟨by rw [htx, houts]; exact ht, fun hfc => ?_, fun hfc hexp h4 h5 => ?_, fun hfc hack => ?_⟩
  · rw [htx, houts, State.routedTx_of_reply hfc, hfc]
    refine ⟨fun hw => by rw [hw]; rfl, TxState.closeRead_of_ne, fun h3 => ?_, fun _ hno => ?_, fun h3 i c hi ha hfirst => ?_⟩
    · rw [State.fired_of_short h3]
    · rw [State.fired_of_lookup_none (cbLookup_none hno)]
    · rw [State.fired_of_watched hfc h3 hi ha hfirst]; rfl
  · have hne : s.rxByte 3 ≠ 0x83#8 := by rw [hfc]; decide
    have hack : s.holdsAck = true := State.holdsAck_iff.2 ⟨hfc, hexp, h4, h5⟩
    rw [htx, houts, State.routedTx_of_not_reply hne, State.fired_of_not_reply hne, hfc, hexp]
    exact ⟨rfl, fun hw => if_pos ⟨hack, hw⟩, fun hw => if_neg fun h => hw h.2⟩
  · rw [htx, houts, State.routedTx_of_not_reply hfc, State.fired_of_not_reply hfc]
    exact ⟨if_neg fun h => hack (State.holdsAck_iff.1 h.1), rfl⟩

end Sys2Proof.Machine
end

section
/-! SUPPORT. A frame read out of the ring, one byte per `TICK` (R138, R196, R262), and what the last byte's tick does. Settles the statement that a
read reply is delivered. -/

namespace Sys2Proof.Machine

/-! ### The unread bytes of the ring -/

/-- The ring holds exactly `bs` unread, and has room for one more (R111, R116). -/
structure State.RingHolds (s : State) (bs : List Byte) : Prop where
  fits : bs.length < s.cfgN
  head : s.rbHead = if bs = [] then s.rbTail else (s.rbTail + (bs.length : Int)) % (s.cfgN : Int)
  byte : ∀ j < bs.length, s.rbMem.read ((s.rbTail + 1 + (j : Int)) % (s.cfgN : Int)).toNat = bs[j]?

/-- A frame received in an empty ring with room for it is what the ring holds (R101). -/
theorem State.receive_ringHolds {s : State} {bs : List Byte} (hl : s.link ≠ .uninit) (he : s.rbTail = s.rbHead) (hbs : bs ≠ [])
    (hN : bs.length < s.cfgN) : (s.receive bs).RingHolds bs := by
  rw [State.receive_eq hl (by omega)]
  refine ⟨hN, ?_, fun j hj => ?_⟩
  · rw [if_neg hbs, he]
  · rw [he]; exact Memory.read_writeRing hN.le hj

/-- A ring that holds a byte is not empty. -/
theorem State.RingHolds.nonempty {s : State} {b : Byte} {bs : List Byte} (h : s.RingHolds (b :: bs)) : s.rbTail ≠ s.rbHead := by
  have hfits := h.fits
  have hhead := h.head
  rw [if_neg (List.cons_ne_nil b bs)] at hhead
  intro he
  have hmod : s.rbTail + ((b :: bs).length : Int) ≡ s.rbTail + 0 [ZMOD s.cfgN] := by
    rw [add_zero]
    exact (Int.mod_modEq _ _).symm.trans (by rw [← hhead, ← he])
  have hdvd : (s.cfgN : Int) ∣ (b :: bs).length := Int.modEq_zero_iff_dvd.1 (Int.ModEq.add_left_cancel' _ hmod)
  have := Int.le_of_dvd (by simp only [List.length_cons]; omega) hdvd
  omega

theorem State.RingHolds.empty {s : State} (h : s.RingHolds []) : s.rbTail = s.rbHead := (h.head.trans (if_pos rfl)).symm

/-- The next byte popped, and what the ring then holds (R116). -/
theorem State.RingHolds.pop {s : State} {b : Byte} {bs : List Byte} (h : s.RingHolds (b :: bs)) :
    s.rbMem.read s.nextTail.toNat = some b ∧ State.RingHolds { s with rbTail := s.nextTail } bs := by
  obtain ⟨hfits, hhead, hbyte⟩ := h
  rw [List.length_cons] at hfits
  rw [if_neg (List.cons_ne_nil b bs), List.length_cons] at hhead
  refine ⟨by rw [State.nextTail]; simpa using hbyte 0 (Nat.succ_pos _), ⟨by dsimp only; omega, ?_, fun j hj => ?_⟩⟩
  · show s.rbHead = if bs = [] then s.nextTail else (s.nextTail + (bs.length : Int)) % (s.cfgN : Int)
    rw [hhead, State.nextTail]
    split
    · next hnil => rw [hnil]; rfl
    · rw [Int.emod_add_emod]; congr 1; push_cast; ring
  · show s.rbMem.read ((s.nextTail + 1 + (j : Int)) % (s.cfgN : Int)).toNat = bs[j]?
    have := hbyte (j + 1) (Nat.succ_lt_succ hj)
    rw [State.nextTail, add_assoc, Int.emod_add_emod, show s.rbTail + 1 + (1 + (j : Int)) = s.rbTail + 1 + ((j + 1 : Nat) : Int) by push_cast; ring]
    exact this

/-! ### What the parser's progress says about a tick -/

/-- The parser reads nothing of the ring, the transaction or the last operation (R130). -/
theorem State.rxFeed_outside (s : State) (b : Byte) (now : Tick) (tail : Int) (a : Option Answer) (os : List Output) :
    State.rxFeed { s with rbTail := tail, answer := a, outs := os } b now =
      { s.rxFeed b now with rbTail := tail, answer := a, outs := os } := by
  unfold State.rxFeed
  dsimp only
  split
  · unfold State.feedHeader; split_ifs <;> rfl
  · rfl
  · rfl
  · unfold State.feedData State.storeData; dsimp only; split_ifs <;> rfl
  · rfl

section
variable {s : State} {len fc : Byte} {data : List Byte} {start now : Tick} {k : Nat}

/-- What has been read does not depend on the ring, the transaction or the last operation. -/
theorem State.HasRead.outside (h : s.HasRead len fc data start k) (tail : Int) (tx : TxState) (a : Option Answer) (os : List Output) :
    State.HasRead { s with rbTail := tail, txState := tx, answer := a, outs := os } len fc data start k := by
  match k, h with
  | 0, h => exact h
  | 1, h => exact h
  | 2, h => exact h
  | 3, h => exact h
  | k + 4, ⟨hd, hr⟩ => exact ⟨⟨hd.expected, hd.received, hd.hdr1, hd.startTick, hd.length, hd.functionCode, hd.slots⟩, hr⟩

/-- A frame with data that is not all read is not complete. -/
theorem State.HasRead.incomplete (h : s.HasRead len fc data start k) (hk : k < data.length + 4) : s.rxState ≠ .dataReceived := by
  match k, h with
  | 0, hr => rw [hr]; decide
  | 1, ⟨hr, _⟩ => rw [hr]; decide
  | 2, ⟨hr, _⟩ => rw [hr]; decide
  | 3, ⟨hr, _⟩ => rw [hr]; decide
  | k + 4, ⟨_, hr⟩ => rw [hr, if_neg (by omega)]; decide

/-- The parser takes the next byte of a frame that is not all read (R137). -/
theorem State.HasRead.wantsByte (h : s.HasRead len fc data start k) (hdata : data.length = dataCount len) (hk : k < data.length + 4) :
    s.wantsByte = true := by
  refine State.wantsByte_iff.2 ⟨h.incomplete hk, fun ⟨hr, he⟩ => ?_⟩
  match k, h with
  | 0, hr' => exact nomatch hr.symm.trans hr'
  | 1, ⟨hr', _⟩ => exact nomatch hr.symm.trans hr'
  | 2, ⟨hr', _⟩ => exact nomatch hr.symm.trans hr'
  | 3, ⟨hr', _⟩ => exact nomatch hr.symm.trans hr'
  | k + 4, ⟨hd, _⟩ =>
    have hexp : s.rxExpected.toNat = data.length := by rw [hd.expected]; exact hdata.symm
    have := congrArg BitVec.toNat he
    rw [hd.received, hexp] at this
    omega

/-- A frame is discarded only when the reception deadline has passed since its second byte (R140). -/
theorem State.HasRead.not_expired {limit : Tick} (h : s.HasRead len fc data start k) (hstart : k = 2 → now = start)
    (hlimit : 3 ≤ k → ¬ limit < now - start) : ¬ (s.rxState ≠ .waitingHeader ∧ limit < elapsed now s.rxStartTick) := by
  rintro ⟨hr, he⟩
  match k, h with
  | 0, hr' => exact hr hr'
  | 1, ⟨hr', _⟩ => exact hr hr'
  | 2, ⟨_, _, hs⟩ =>
    rw [hs, hstart rfl, elapsed, BitVec.sub_self] at he
    exact absurd he (by simp)
  | 3, ⟨_, _, hs, _⟩ => exact hlimit le_rfl (hs ▸ he)
  | k + 4, ⟨hd, _⟩ => exact hlimit (by omega) (hd.startTick ▸ he)

end

/-! ### One tick, one byte (R138, R196) -/

/-- Step 2 of a `TICK` whose parser wants a byte and whose ring has one. -/
theorem execTick_reads {s : State} {now : Tick} {b : Byte} (hl : s.link = .operational) (hw : s.wantsByte = true)
    (hne : s.rbTail ≠ s.rbHead) (hb : s.rbMem.read s.nextTail.toNat = some b) :
    exec (.tick now) s =
      .next (State.reply (State.tickTail { s.rxFeed b now with rbTail := s.nextTail, answer := none, outs := [] } now) .ok) := by
  have hstep : s.takeOp.rxStep now = .next { s.rxFeed b now with rbTail := s.nextTail, answer := none, outs := [] } := by
    rw [State.rxStep_wants (s := s.takeOp) hw, if_neg (show s.takeOp.rbTail ≠ s.takeOp.rbHead from hne),
      ← State.rxFeed_outside]
    have hb' : s.takeOp.rbMem.read s.takeOp.nextTail.toNat = some b := hb
    rw [hb']
    rfl
  rw [execTick_operational hl, State.tickBody, hstep]

/-- A `TICK` that reads a byte which completes no frame, and meets no deadline. -/
theorem execTick_reads_incomplete {s : State} {now : Tick} {b : Byte} (hl : s.link = .operational) (hw : s.wantsByte = true)
    (hne : s.rbTail ≠ s.rbHead) (hb : s.rbMem.read s.nextTail.toNat = some b) (hinc : (s.rxFeed b now).rxState ≠ .dataReceived)
    (htx : ¬ s.cfgTxTimeout ≤ now - s.txSendTick)
    (hrx : ¬ ((s.rxFeed b now).rxState ≠ .waitingHeader ∧ s.cfgRxTimeout < elapsed now (s.rxFeed b now).rxStartTick)) :
    exec (.tick now) s = .next { s.rxFeed b now with
      rbTail := s.nextTail, txState := s.txState.latency, answer := some ⟨.ok, none⟩, outs := [] } := by
  have hf := s.rxFeed_frame b now
  rw [execTick_reads hl hw hne hb]
  generalize s.rxFeed b now = f at hf hinc hrx ⊢
  have hcfg : f.cfgTxTimeout = s.cfgTxTimeout ∧ f.cfgRxTimeout = s.cfgRxTimeout ∧ f.txSendTick = s.txSendTick ∧
      f.txState = s.txState := by rw [hf]; exact ⟨rfl, rfl, rfl, rfl⟩
  obtain ⟨hcfgTx, hcfgRx, hsend, htxs⟩ := hcfg
  rw [State.tickTail_incomplete (s := { f with rbTail := s.nextTail, answer := none, outs := [] }) now hinc]
  dsimp only
  rw [hcfgTx, hcfgRx, hsend, htxs, if_neg hrx, if_neg hrx, if_neg fun h => htx h.2]
  rfl

/-- A `TICK` that reads the last byte of a read reply while a read awaits it: the read is closed, the frame announced and dispatched. -/
theorem execTick_delivers {s : State} {now : Tick} {b : Byte} (hl : s.link = .operational) (hw : s.wantsByte = true)
    (hne : s.rbTail ≠ s.rbHead) (hb : s.rbMem.read s.nextTail.toNat = some b) (hd : (s.rxFeed b now).rxState = .dataReceived)
    (hfc : (s.rxFeed b now).rxByte 3 = 0x83#8) (htx : s.txState = .awaitingReadReply) :
    ∃ w, exec (.tick now) s = .next w ∧ w.txState = .idle ∧ w.rxState = .waitingHeader ∧ w.rbTail = s.nextTail ∧
      w.rbHead = s.rbHead ∧ w.outs = .frameDone 0x83#8 (s.rxFeed b now).rxExpected :: (s.rxFeed b now).fired := by
  have hf := s.rxFeed_frame b now
  rw [execTick_reads hl hw hne hb]
  generalize s.rxFeed b now = f at hf hd hfc ⊢
  have htxf : f.txState.latency = .awaitingReadReply := by rw [hf]; dsimp only; rw [htx]; rfl
  have hhead : f.rbHead = s.rbHead := by rw [hf]
  generalize hg : ({ f with rbTail := s.nextTail, answer := none, outs := [] } : State) = g
  have hdg : g.rxState = .dataReceived := by rw [← hg]; exact hd
  obtain ⟨hrx, -, houts, htxg⟩ := State.tickTail_complete now hdg
  have hrouted : g.txLatencyStep.routedTx = .idle := by
    rw [State.routedTx_of_reply (by rw [← hg]; exact hfc), State.txLatencyStep_txState, ← hg, htxf]; rfl
  rw [State.completeFrame_eq (s := g.txLatencyStep) hdg] at houts htxg
  have hframe := g.tickTail_frame now
  refine ⟨_, rfl, ?_, hrx, ?_, ?_, ?_⟩
  · rw [State.reply_txState, htxg, hrouted, ite_self]
  · rw [State.reply_rbTail, hframe, ← hg]
  · rw [State.reply_rbHead, hframe, ← hg]; exact hhead
  · rw [State.reply_outs, houts, ← hg, ← hfc]; rfl

/-! ### Ticks, one after another -/

theorem State.ticks_concat {s v : State} {nows : List Tick} (now : Tick) (h : s.ticks nows = .next v) :
    s.ticks (nows ++ [now]) = exec (.tick now) v := by
  induction nows generalizing s with
  | nil =>
    cases h
    rw [List.nil_append, State.ticks]
    cases exec (.tick now) v <;> rfl
  | cons t nows ih =>
    rw [State.ticks] at h
    rw [List.cons_append, State.ticks]
    cases he : exec (.tick t) s with
    | next s' => rw [he] at h; exact ih h
    | fault f => rw [he] at h; cases h
    | refused r => rw [he] at h; cases h

/-! ### A read reply, byte by byte (R84, R262) -/

/-- From `u`, whose ring held a read reply with these fields, the first `k` bytes of it have been read, the second of them at tick `start`;
nothing but the parser, the tail and what the last operation shows has changed. -/
structure State.ReadingReply (u : State) (len : Byte) (data : List Byte) (start : Tick) (k : Nat) (s : State) : Prop where
  ring : s.RingHolds ((frameBytes len 0x83#8 data).drop k)
  read : s.HasRead len 0x83#8 data start k
  kept : s = { u with
    rbTail := s.rbTail, rxState := s.rxState, rxHdr1 := s.rxHdr1, rxFb := s.rxFb, rxExpected := s.rxExpected
    rxReceived := s.rxReceived, rxStartTick := s.rxStartTick, answer := s.answer, outs := s.outs }

/-- The next byte of the reply stands at the next index of the ring. -/
theorem State.ReadingReply.ringHolds_cons {u s : State} {len : Byte} {data : List Byte} {start : Tick} {k : Nat}
    (h : u.ReadingReply len data start k s) (hk : k < (frameBytes len 0x83#8 data).length) :
    s.RingHolds ((frameBytes len 0x83#8 data)[k] :: (frameBytes len 0x83#8 data).drop (k + 1)) := by
  rw [← List.drop_eq_getElem_cons hk]; exact h.ring

/-- A tick before the last one reads one byte more. -/
theorem State.ReadingReply.tick {u s : State} {len : Byte} {data : List Byte} {start now : Tick} {k : Nat}
    (h : u.ReadingReply len data start k s) (hl : u.link = .operational) (htx : u.txState = .awaitingReadReply)
    (hdata : data.length = dataCount len) (hk : k + 1 < data.length + 4) (hstart : k = 1 → now = start)
    (hdeadline : ¬ u.cfgTxTimeout ≤ now - u.txSendTick) (hlimit : 2 ≤ k → ¬ u.cfgRxTimeout < now - start) :
    ∃ t, exec (.tick now) s = .next t ∧ u.ReadingReply len data start (k + 1) t := by
  have hlt : k < (frameBytes len 0x83#8 data).length := Nat.lt_of_succ_lt hk
  have hcons := h.ringHolds_cons hlt
  obtain ⟨hbyte, hrest⟩ := hcons.pop
  have hkept := h.kept
  have hcfg : s.link = .operational ∧ s.txState = .awaitingReadReply ∧ s.cfgTxTimeout = u.cfgTxTimeout ∧
      s.txSendTick = u.txSendTick ∧ s.cfgRxTimeout = u.cfgRxTimeout := by rw [hkept]; exact ⟨hl, htx, rfl, rfl, rfl⟩
  obtain ⟨hls, htxs, hcfgTx, hsend, hcfgRx⟩ := hcfg
  have hread := h.read.rxFeed (now := now) hdata (List.getElem?_eq_getElem hlt) hstart
  have hf := s.rxFeed_frame (frameBytes len 0x83#8 data)[k] now
  refine ⟨_, execTick_reads_incomplete hls (h.read.wantsByte hdata (Nat.lt_of_succ_lt hk)) hcons.nonempty hbyte (hread.incomplete hk)
    (by rw [hcfgTx, hsend]; exact hdeadline)
    (hread.not_expired (fun h2 => hstart (by omega)) fun h3 => by rw [hcfgRx]; exact hlimit (by omega)), ?_⟩
  generalize s.rxFeed (frameBytes len 0x83#8 data)[k] now = f at hread hf ⊢
  refine ⟨?_, hread.outside _ _ _ _, ?_⟩
  · rw [hf]; exact ⟨hrest.fits, hrest.head, hrest.byte⟩
  · rw [htxs, hf, hkept]
    dsimp only
    rw [show TxState.latency .awaitingReadReply = u.txState from htx.symm]

/-- The ticks before the last one, at the values of `nows`. -/
theorem State.ReadingReply.ticks {u : State} {len : Byte} {data : List Byte} {start : Tick} {nows : List Tick}
    (h : u.ReadingReply len data start 0 u) (hl : u.link = .operational) (htx : u.txState = .awaitingReadReply)
    (hdata : data.length = dataCount len) (hnows : nows.length = data.length + 4) (hstart : nows[1]? = some start)
    (hdeadline : ∀ now ∈ nows, ¬ u.cfgTxTimeout ≤ now - u.txSendTick) (hlimit : ∀ now ∈ nows.drop 2, ¬ u.cfgRxTimeout < now - start)
    (k : Nat) (hk : k < data.length + 4) : ∃ s, u.ticks (nows.take k) = .next s ∧ u.ReadingReply len data start k s := by
  induction k with
  | zero => exact ⟨u, rfl, h⟩
  | succ k ih =>
    obtain ⟨s, hs, hread⟩ := ih (Nat.lt_of_succ_lt hk)
    have hlt : k < nows.length := by omega
    have hsecond : k = 1 → nows[k] = start := by
      rintro rfl
      exact Option.some.inj ((List.getElem?_eq_getElem hlt).symm.trans hstart)
    have hlate : 2 ≤ k → nows[k] ∈ nows.drop 2 := fun h2 => by
      refine List.mem_of_getElem? (i := k - 2) ?_
      rw [List.getElem?_drop, show 2 + (k - 2) = k by omega, List.getElem?_eq_getElem hlt]
    obtain ⟨t, ht, hread'⟩ := hread.tick hl htx hdata hk hsecond (hdeadline _ (List.getElem_mem hlt)) fun h2 => hlimit _ (hlate h2)
    refine ⟨t, ?_, hread'⟩
    rw [← List.take_concat_get' _ _ hlt, State.ticks_concat _ hs, ht]

/-- The last tick closes the read, announces the frame and fires the callback of the reply that is now held. -/
theorem State.ReadingReply.lastTick {u s : State} {len : Byte} {data : List Byte} {start : Tick} (now : Tick)
    (h : u.ReadingReply len data start (data.length + 3) s) (hl : u.link = .operational) (htx : u.txState = .awaitingReadReply)
    (hdata : data.length = dataCount len) (h1 : 1 ≤ data.length) :
    ∃ f w : State, exec (.tick now) s = .next w ∧ w.txState = .idle ∧ w.rxState = .waitingHeader ∧ w.rbTail = w.rbHead ∧
      f.HoldsData len 0x83#8 data start data.length ∧ f.cbs = u.cbs ∧ f.params = u.params ∧
      w.outs = .frameDone 0x83#8 (len - 1#8) :: f.fired := by
  have hlt : data.length + 3 < (frameBytes len 0x83#8 data).length := Nat.lt_succ_self _
  have hcons := h.ringHolds_cons hlt
  obtain ⟨hbyte, hrest⟩ := hcons.pop
  rw [List.drop_eq_nil_of_le (le_refl (data.length + 4))] at hrest
  have hkept := h.kept
  have hcfg : s.link = .operational ∧ s.txState = .awaitingReadReply ∧ s.cbs = u.cbs ∧ s.params = u.params := by
    rw [hkept]; exact ⟨hl, htx, rfl, rfl⟩
  obtain ⟨hls, htxs, hcbs, hparams⟩ := hcfg
  obtain ⟨hheld, hstate⟩ := h.read.rxFeed (now := now) hdata (List.getElem?_eq_getElem hlt) fun h2 => by omega
  rw [if_pos ⟨by omega, rfl⟩] at hstate
  have hf := s.rxFeed_frame (frameBytes len 0x83#8 data)[data.length + 3] now
  obtain ⟨w, hw, hidle, hrx, htail, hhead, houts⟩ := execTick_delivers (now := now) hls (h.read.wantsByte hdata (Nat.lt_succ_self _))
    hcons.nonempty hbyte hstate hheld.functionCode htxs
  refine ⟨_, w, hw, hidle, hrx, ?_, hheld, ?_, ?_, ?_⟩
  · rw [htail, hhead]; exact hrest.empty
  · rw [hf]; exact hcbs
  · rw [hf]; exact hparams
  · rw [houts, hheld.expected]

/-- What a callback carries of a reply with three or more data bytes (R183, R184). -/
theorem State.HoldsData.fireOutput {s : State} {len fc : Byte} {start : Tick} {d0 d1 d2 : Byte} {payload : List Byte}
    (h : s.HoldsData len fc (d0 :: d1 :: d2 :: payload) start (payload.length + 3)) (hdata : payload.length + 3 = dataCount len)
    (hcap : 7 ≤ s.params.rxCap) :
    s.replyAddr = d0 ++ d1 ∧ ∀ i c, s.fireOutput i c =
      .cbFire i c.tag (d0 ++ d1) d2 (min payload.length (s.params.rxCap - 7)) (payload.take (s.params.rxCap - 7)) := by
  have h4 : d0 = s.rxByte 4 := Option.some.inj (h.slots 0 (by omega) (by omega))
  have h5 : d1 = s.rxByte 5 := Option.some.inj (h.slots 1 (by omega) (by omega))
  have h6 : d2 = s.rxByte 6 := Option.some.inj (h.slots 2 (by omega) (by omega))
  have haddr : s.replyAddr = d0 ++ d1 := by rw [h4, h5]; rfl
  have hplen : s.replyPlen = min payload.length (s.params.rxCap - 7) := by
    have hexp : s.rxExpected.toNat = payload.length + 3 := by rw [h.expected]; exact hdata.symm
    rw [State.replyPlen, State.rxStored, hexp]; omega
  have hpayload : s.rxSlice 7 s.replyPlen = payload.take (s.params.rxCap - 7) := by
    rw [hplen]
    refine (h.rxSlice (i := 3) (by omega) (by omega)).trans ?_
    rw [show List.drop 3 (d0 :: d1 :: d2 :: payload) = payload from rfl, List.take_eq_take_iff]
    omega
  exact ⟨haddr, fun i c => by rw [State.fireOutput, haddr, hpayload, hplen, h6]⟩

/-- Settles O40: the reply is received whole, read byte by byte by the ticks before the last, and delivered by the last. -/
theorem readReplyIsDelivered : Obligations.ReadReplyIsDelivered := by
  intro s len data nows ⟨⟨_, hcap, _, _⟩, _⟩ hl htx hr he hdata h1 hN hnows hdeadline hlimit
  have hnot : s.takeOp.link ≠ .uninit := by rw [State.takeOp_link, hl]; decide
  have hring := State.receive_ringHolds (s := s.takeOp) (bs := frameBytes len 0x83#8 data) hnot he nofun hN
  have hframe := s.takeOp.receiveFrom_frame s.rbHead (frameBytes len 0x83#8 data)
  have hexec : exec (.readReply len data) s = .next (s.takeOp.receive (frameBytes len 0x83#8 data)) := rfl
  unfold State.receive at hring hexec
  rw [State.takeOp_rbHead] at hring hexec
  generalize s.takeOp.receiveFrom s.rbHead (frameBytes len 0x83#8 data) = u at hring hframe hexec
  have hcfg : u.link = s.link ∧ u.txState = s.txState ∧ u.rxState = s.rxState ∧ u.cbs = s.cbs ∧ u.params = s.params ∧
      u.cfgTxTimeout = s.cfgTxTimeout ∧ u.cfgRxTimeout = s.cfgRxTimeout ∧ u.txSendTick = s.txSendTick := by
    rw [hframe]; exact ⟨rfl, rfl, rfl, rfl, rfl, rfl, rfl, rfl⟩
  obtain ⟨hul, hutx, hur, hcbs, hparams, hcfgTx, hcfgRx, hsend⟩ := hcfg
  have hlast : data.length + 3 < nows.length := by omega
  have hsecond : nows[1]? = some nows[1] := List.getElem?_eq_getElem (by omega)
  have hbegin : u.ReadingReply len data nows[1] 0 u := ⟨hring, hur.trans hr, rfl⟩
  obtain ⟨v, hv, hread⟩ := hbegin.ticks (hul.trans hl) (hutx.trans htx) hdata hnows hsecond
    (by rw [hcfgTx, hsend]; exact hdeadline) (by rw [hcfgRx]; exact fun now hm => hlimit now hm _ hsecond)
    (data.length + 3) (Nat.lt_succ_self _)
  obtain ⟨f, w, hw, hidle, hrx, hempty, hheld, hfcbs, hfparams, houts⟩ :=
    hread.lastTick nows[data.length + 3] (hul.trans hl) (hutx.trans htx) hdata h1
  have hall : nows.take (data.length + 3) ++ [nows[data.length + 3]] = nows := by
    rw [List.take_concat_get', List.take_of_length_le hnows.le]
  have hrun : u.ticks nows = .next w := by rw [← hw, ← State.ticks_concat _ hv, hall]
  have hexp : f.rxExpected.toNat = data.length := by rw [hheld.expected]; exact hdata.symm
  refine ⟨u, w, hexec, hrun, hidle, hrx, hempty, fun hshort => ?_, fun d0 d1 d2 payload hd => ?_⟩
  · rw [houts, State.fired_of_short (by omega)]
  · subst hd
    rw [← hparams, ← hfparams] at hcap ⊢
    obtain ⟨haddr, hfire⟩ := hheld.fireOutput hdata hcap
    rw [houts]
    cases hfound : cbLookup (d0 ++ d1) 0 s.cbs with
    | none => rw [State.fired_of_lookup_none (by rw [haddr, hfcbs, hcbs]; exact hfound)]
    | some slot =>
      rw [State.fired_of_lookup hheld.functionCode (hexp ▸ Nat.le_add_left 3 payload.length)
        (i := slot.1) (c := slot.2) (by rw [haddr, hfcbs, hcbs]; exact hfound), hfire]

end Sys2Proof.Machine
end

section
/-! SUPPORT. The ring operations one by one (R110 to R116), and a whole first lap stored and popped (R117 b). Settles the statements about the ring
buffer. -/

namespace Sys2Proof.Machine

/-! ### `RB_WRITE` and `RX_PROGRESS` (R110, R112 to R114) -/

theorem exec_rbWrite (idx : Nat) (b : Byte) (s : State) : exec (.rbWrite idx b) s = .next (s.takeOp.storeByte idx b) := rfl

theorem exec_rxProgress (idx : Nat) (s : State) : exec (.rxProgress idx) s = .next (s.takeOp.publish idx) := rfl

/-- Settles O10: the write is ignored, or is one write of `rb_mem`, which reads back at its own index only. -/
theorem rbWriteStoresExactlyOneByte : Obligations.RbWriteStoresExactlyOneByte := by
  intro s idx b
  rw [exec_rbWrite]
  refine ⟨fun h => ?_, fun hl hidx => ⟨_, rfl, ?_⟩⟩
  · rw [State.storeByte_ignored (s := s.takeOp) b h]; rfl
  · rw [State.storeByte_taken (s := s.takeOp) b hl hidx]
    exact ⟨Memory.read_write_same s.rbMem idx b, fun j hj => Memory.read_write_other s.rbMem b hj, rfl⟩

/-- Settles O11: the report is ignored, or records the head and adds the overflow condition to the flag. -/
theorem rxProgressRecordsHeadAndOverflow : Obligations.RxProgressRecordsHeadAndOverflow := by
  intro s idx
  rw [exec_rxProgress]
  refine ⟨fun h => ?_, fun hl hidx => ⟨_, rfl, ?_⟩⟩
  · rw [State.publish_ignored (s := s.takeOp) h]; rfl
  · rw [State.publish_taken (s := s.takeOp) hl hidx]
    have hovf : (s.rbOvf || s.overflows idx) = true ↔ s.rbOvf = true ∨ s.rbLimit < s.rbUnread + s.rbAdvance idx := by
      rw [Bool.or_eq_true, State.overflows, decide_eq_true_iff]
    exact ⟨rfl, hovf, rfl⟩

/-! ### The unread count (R111) -/

/-- Settles O12: each case of R111 with its bound from the legal indices. -/
theorem unreadCountByCases : Obligations.UnreadCountByCases := by
  intro s hl hc hr
  have hN := hc hl
  have ⟨_, _, _, hlt⟩ := hr
  have ⟨hhead, _⟩ := hlt hl
  refine ⟨State.rbUnread_unset, fun hh ht => ?_, fun hh ht => ?_, State.rbUnread_eq_zero_iff hl hr⟩
  · rw [State.rbUnread_firstLap (by omega) ht]
    omega
  · have hnonneg := Int.emod_nonneg (s.rbHead - s.rbTail) (b := (s.cfgN : Int)) (by omega)
    have hbound := Int.emod_lt_of_pos (s.rbHead - s.rbTail) (b := (s.cfgN : Int)) (by omega)
    rw [State.rbUnread_laterLap (by omega) (by omega)]
    exact ⟨rfl, hnonneg, by omega⟩

/-! ### `rb_pop` (R116) -/

/-- Settles O13: `rb_pop` is known in both cases. -/
theorem popAdvancesAndYields : Obligations.PopAdvancesAndYields :=
  fun _ => ⟨State.rbPop_empty, fun hne _ hb => State.rbPop_some hne hb⟩

/-- The first of a run of pops yields the byte at the new tail, and the others start there. -/
theorem State.pops_succ {s : State} {b : Byte} (n : Nat) (hne : s.rbTail ≠ s.rbHead) (hb : s.rbMem.read s.nextTail.toNat = some b) :
    s.pops (n + 1) = (State.pops { s with rbTail := s.nextTail } n).map fun r => (b :: r.1, r.2) := by
  rw [State.pops, State.rbPop_some hne hb]

/-- Popping all that the ring holds returns it in order and brings the tail to the head (R117). -/
theorem State.RingHolds.pops {s : State} {bs : List Byte} (h : s.RingHolds bs) :
    s.pops bs.length = some (bs, { s with rbTail := s.rbHead }) := by
  induction bs generalizing s with
  | nil => exact congrArg (fun tail => some ([], { s with rbTail := tail })) h.empty
  | cons b bs ih =>
    obtain ⟨hb, hrest⟩ := h.pop
    rw [List.length_cons, State.pops_succ _ h.nonempty hb, ih hrest]
    rfl

/-! ### The first lap (R117 b) -/

/-- Storing a run that fits between its first index and the end of the ring is writing it to `rb_mem`. -/
theorem State.storeRun_eq {s : State} {i : Nat} {bs : List Byte} (hl : s.link ≠ .uninit) (hfit : i + bs.length ≤ s.cfgN) :
    s.storeRun i bs = { s with rbMem := Memory.writeAll s.rbMem i bs } := by
  induction bs generalizing s i with
  | nil => rfl
  | cons b bs ih =>
    rw [List.length_cons] at hfit
    rw [State.storeRun, State.storeByte_taken b hl (by omega)]
    exact ih hl (by dsimp only; omega)

/-- From unset indices no progress report overflows: the limit is `N`, and the report declares at most `N` bytes (R113, R114). -/
theorem State.not_overflows_of_unset {s : State} {idx : Nat} (hh : s.rbHead = -1) (ht : s.rbTail = -1) (hidx : idx < s.cfgN) :
    s.overflows idx = false := by
  rw [State.overflows, State.rbLimit, if_pos ht, State.rbUnread_unset hh, State.rbAdvance_unset idx hh, decide_eq_false_iff_not]
  omega

/-- After the first pop of a full first lap the ring holds the other `N - 1` bytes: with the tail set it cannot hold `N` (R111). -/
theorem State.firstPop_ringHolds {s : State} {b : Byte} {bs : List Byte} (hN : bs.length + 1 = s.cfgN) (hh : s.rbHead = (s.cfgN : Int) - 1)
    (hbytes : ∀ j < s.cfgN, s.rbMem.read j = (b :: bs)[j]?) : State.RingHolds { s with rbTail := 0 } bs := by
  refine ⟨by dsimp only; omega, ?_, fun j hj => ?_⟩
  · dsimp only
    split
    · next hnil => rw [hnil, List.length_nil] at hN; omega
    · rw [Int.emod_eq_of_lt (by omega) (by omega)]; omega
  · have hidx : ((0 + 1 + (j : Int)) % (s.cfgN : Int)).toNat = j + 1 := by
      rw [Int.emod_eq_of_lt (by omega) (by omega)]; omega
    dsimp only
    rw [hidx, hbytes (j + 1) (by omega), List.getElem?_cons_succ]

/-- A full first lap popped: all `N` bytes in order. -/
theorem State.pops_firstLap {s : State} {bytes : List Byte} (hN : 0 < s.cfgN) (hlen : bytes.length = s.cfgN)
    (hh : s.rbHead = (s.cfgN : Int) - 1) (ht : s.rbTail = -1) (hbytes : ∀ j < s.cfgN, s.rbMem.read j = bytes[j]?) :
    s.pops s.cfgN = some (bytes, { s with rbTail := s.rbHead }) := by
  cases bytes with
  | nil => rw [List.length_nil] at hlen; omega
  | cons b bs =>
    rw [List.length_cons] at hlen
    have hnext : s.nextTail = 0 := by rw [State.nextTail, ht]; rfl
    have hfirst : s.rbMem.read s.nextTail.toNat = some b := by rw [hnext]; exact hbytes 0 hN
    refine (congrArg s.pops hlen.symm).trans ?_
    rw [State.pops_succ _ (by omega) hfirst, hnext, (State.firstPop_ringHolds hlen hh hbytes).pops]
    rfl

/-- A first lap stored and published from the unset state: its bytes in `rb_mem`, the head at the last index, and no overflow. -/
theorem State.publish_storeRun_firstLap {s : State} {bytes : List Byte} (hl : s.link ≠ .uninit) (hN : 0 < s.cfgN) (hh : s.rbHead = -1)
    (ht : s.rbTail = -1) (hlen : bytes.length = s.cfgN) :
    (s.storeRun 0 bytes).publish (s.cfgN - 1) =
      { s with rbMem := Memory.writeAll s.rbMem 0 bytes, rbHead := (s.cfgN : Int) - 1 } := by
  have hlast : s.cfgN - 1 < s.cfgN := by omega
  have hcast : ((s.cfgN - 1 : Nat) : Int) = (s.cfgN : Int) - 1 := by omega
  rw [State.storeRun_eq hl (by omega)]
  refine (State.publish_taken (s := { s with rbMem := Memory.writeAll s.rbMem 0 bytes }) hl hlast).trans ?_
  rw [State.not_overflows_of_unset (s := { s with rbMem := Memory.writeAll s.rbMem 0 bytes }) hh ht hlast, Bool.or_false, hcast]

/-- Settles O14: the stored bytes read back at their indices, the report does not overflow, and popping the full lap returns them. -/
theorem firstLapReturnsTheBytesInOrder : Obligations.FirstLapReturnsTheBytesInOrder := by
  intro s bytes hl hN hh ht hovf hlen
  have hread : ∀ j < s.cfgN, (Memory.writeAll s.rbMem 0 bytes).read j = bytes[j]? := fun j hj => by
    rw [Memory.read_writeAll, if_pos ⟨j.zero_le, by omega⟩, Nat.sub_zero]
  have hpops := State.pops_firstLap (s := { s with rbMem := Memory.writeAll s.rbMem 0 bytes, rbHead := (s.cfgN : Int) - 1 })
    (Nat.zero_lt_of_lt hN) hlen rfl ht hread
  rw [State.publish_storeRun_firstLap hl (Nat.zero_lt_of_lt hN) hh ht hlen]
  exact ⟨_, hpops, rfl, rfl, hovf, State.rbPop_empty rfl⟩

end Sys2Proof.Machine
end

section
/-! SUPPORT. The frame parser seen through a `TICK` of an operational block (R132 to R143): step 2 reads a byte, finds an empty ring, or
completes a frame without data; steps 3 to 5 announce a complete frame or judge the reception deadline. Settles the statements about one
`TICK` in each state of the parser. -/

namespace Sys2Proof.Machine

/-! ### When step 2 wants a byte (R137) -/

theorem State.wantsByte_of_state {s : State} {r : RxState} (hr : s.rxState = r) (h : r ≠ .dataReceived ∧ r ≠ .waitingData) :
    s.wantsByte = true :=
  State.wantsByte_iff.2 ⟨hr ▸ h.1, fun hd => h.2 (hr ▸ hd.1)⟩

theorem State.wantsByte_of_data {s : State} (hr : s.rxState = .waitingData) (hne : s.rxReceived ≠ s.rxExpected) : s.wantsByte = true :=
  State.wantsByte_iff.2 ⟨by rw [hr]; decide, fun h => hne h.2⟩

/-! ### The reception deadline (R140) -/

theorem State.rxTimeoutCheck_header {s : State} (now : Tick) (hr : s.rxState = .waitingHeader) : s.rxTimeoutCheck now = s :=
  if_neg (by simp [State.rxExpired, hr])

/-- A frame that begins at this very tick is not past its deadline. -/
theorem State.rxTimeoutCheck_begun {s : State} {now : Tick} (hs : s.rxStartTick = now) : s.rxTimeoutCheck now = s :=
  if_neg (by simp [State.rxExpired, hs, elapsed])

theorem State.rxTimeoutCheck_frame {s : State} (now : Tick) (hr : s.rxState ≠ .waitingHeader) :
    s.rxTimeoutCheck now = { s with
      rxState := if s.cfgRxTimeout < now - s.rxStartTick then .waitingHeader else s.rxState
      rxHdr1 := if s.cfgRxTimeout < now - s.rxStartTick then false else s.rxHdr1 } := by
  rw [State.rxTimeoutCheck_eq]
  simp only [hr, ne_eq, not_false_eq_true, true_and, elapsed]

/-! ### Steps 3 to 5, up to what they make of `tx_state` (R196) -/

/-- Without a complete frame only the two deadlines are judged. -/
theorem State.tickTail_deadlines {s : State} (now : Tick) (hinc : s.rxState ≠ .dataReceived) :
    ∃ tx, s.tickTail now = { s.rxTimeoutCheck now with txState := tx } := by
  rw [State.tickTail_incomplete now hinc, State.rxTimeoutCheck_eq]
  exact ⟨_, rfl⟩

/-- A complete frame is announced, and its callback fired; the parser waits for a header again. -/
theorem State.tickTail_announces {s : State} (now : Tick) (hd : s.rxState = .dataReceived) :
    ∃ tx, s.tickTail now = { s with
      rxState := .waitingHeader, rxHdr1 := false, txState := tx
      outs := s.outs ++ .frameDone (s.rxByte 3) s.rxExpected :: s.fired } := by
  unfold State.tickTail
  rw [State.completeFrame_eq (s := s.txLatencyStep) hd, State.txTimeoutCheck_eq, State.rxTimeoutCheck_header _ rfl]
  exact ⟨_, rfl⟩

/-! ### A whole `TICK` of an operational block, up to what it makes of `tx_state` -/

/-- Step 2 takes a byte that completes no frame. -/
theorem execTick_feeds {s : State} {now : Tick} {b : Byte} (hl : s.link = .operational) (hw : s.wantsByte = true)
    (hne : s.rbTail ≠ s.rbHead) (hb : s.rbMem.read s.nextTail.toNat = some b) (hinc : (s.rxFeed b now).rxState ≠ .dataReceived) :
    ∃ tx, exec (.tick now) s = .next { (s.rxFeed b now).rxTimeoutCheck now with
      rbTail := s.nextTail, txState := tx, answer := some ⟨.ok, none⟩, outs := [] } := by
  rw [execTick_reads hl hw hne hb]
  obtain ⟨tx, htail⟩ :=
    State.tickTail_deadlines (s := { s.rxFeed b now with rbTail := s.nextTail, answer := none, outs := [] }) now hinc
  rw [htail, State.rxTimeoutCheck_eq, State.rxTimeoutCheck_eq]
  exact ⟨tx, rfl⟩

/-- Step 2 takes the last byte of a frame. -/
theorem execTick_completes {s : State} {now : Tick} {b : Byte} (hl : s.link = .operational) (hw : s.wantsByte = true)
    (hne : s.rbTail ≠ s.rbHead) (hb : s.rbMem.read s.nextTail.toNat = some b) (hd : (s.rxFeed b now).rxState = .dataReceived) :
    ∃ tx, exec (.tick now) s = .next { s.rxFeed b now with
      rbTail := s.nextTail, rxState := .waitingHeader, rxHdr1 := false, txState := tx, answer := some ⟨.ok, none⟩
      outs := .frameDone ((s.rxFeed b now).rxByte 3) (s.rxFeed b now).rxExpected :: (s.rxFeed b now).fired } := by
  rw [execTick_reads hl hw hne hb]
  obtain ⟨tx, htail⟩ :=
    State.tickTail_announces (s := { s.rxFeed b now with rbTail := s.nextTail, answer := none, outs := [] }) now hd
  rw [htail]
  exact ⟨tx, rfl⟩

/-- Step 2 wants a byte and finds none (R137): the reception deadline is judged. -/
theorem execTick_empty {s : State} {now : Tick} (hl : s.link = .operational) (hw : s.wantsByte = true) (he : s.rbTail = s.rbHead) :
    ∃ tx, exec (.tick now) s = .next { s.rxTimeoutCheck now with txState := tx, answer := some ⟨.ok, none⟩, outs := [] } := by
  have hstep : s.takeOp.rxStep now = .next s.takeOp := (State.rxStep_wants (s := s.takeOp) hw).trans (if_pos he)
  rw [execTick_operational hl, State.tickBody, hstep]
  obtain ⟨tx, htail⟩ := State.tickTail_deadlines (s := s.takeOp) now (State.wantsByte_iff.1 hw).1
  dsimp only
  rw [htail, State.rxTimeoutCheck_eq, State.rxTimeoutCheck_eq]
  exact ⟨tx, rfl⟩

/-- Step 2 finds a frame whose data bytes have all been received (R136). -/
theorem execTick_noData {s : State} {now : Tick} (hl : s.link = .operational) (hr : s.rxState = .waitingData)
    (he : s.rxReceived = s.rxExpected) :
    ∃ tx, exec (.tick now) s = .next { s with
      rxState := .waitingHeader, rxHdr1 := false, txState := tx, answer := some ⟨.ok, none⟩
      outs := .frameDone (s.rxByte 3) s.rxExpected :: s.fired } := by
  rw [execTick_operational hl, State.tickBody, State.rxStep_noData (s := s.takeOp) hr he]
  obtain ⟨tx, htail⟩ := State.tickTail_announces (s := { s.takeOp with rxState := .dataReceived }) now rfl
  dsimp only
  rw [htail]
  exact ⟨tx, rfl⟩

/-! ### The statements -/

/-- Settles O17: the three rows of R132; none of them leaves a frame that could time out in this tick. -/
theorem tickDetectsTheHeader : Obligations.TickDetectsTheHeader := by
  intro s now b hl hr hne hb
  have hw : s.wantsByte = true := State.wantsByte_of_state hr (by decide)
  have hinc : (s.rxFeed b now).rxState ≠ .dataReceived := fun hd =>
    absurd (hr.symm.trans ((State.rxFeed_completes (by rw [hr]; decide)).1 hd).1) (by decide)
  obtain ⟨tx, hexec⟩ := execTick_feeds hl hw hne hb hinc
  refine ⟨_, hexec, rfl, ?_⟩
  by_cases h5A : b = 0x5A#8
  · subst h5A
    rw [State.rxFeed_first hr, State.rxTimeoutCheck_header now (by exact hr)]
    exact ⟨fun _ => ⟨hr, rfl, Memory.read_write_same _ _ _, fun j hj => Memory.read_write_other _ _ hj, rfl⟩,
      fun h => absurd h (by decide), fun h => absurd rfl h, rfl⟩
  · by_cases hA5 : b = 0xA5#8 ∧ s.rxHdr1 = true
    · obtain ⟨rfl, hh⟩ := hA5
      rw [State.rxFeed_second hr hh, State.rxTimeoutCheck_begun (by rfl)]
      exact ⟨fun h => absurd h h5A,
        fun _ _ => ⟨rfl, rfl, Memory.read_write_same _ _ _, fun j hj => Memory.read_write_other _ _ hj, rfl⟩,
        fun _ h => absurd hh (by simpa using h), rfl⟩
    · have hjunk : b ≠ 0xA5#8 ∨ s.rxHdr1 = false := by simpa [or_iff_not_imp_left] using hA5
      rw [State.rxFeed_junk hr h5A hjunk, State.rxTimeoutCheck_header now (by exact hr)]
      exact ⟨fun h => absurd h h5A, fun h hh => absurd ⟨h, hh⟩ hA5, fun _ _ => ⟨hr, rfl, rfl, rfl⟩, rfl⟩

/-- `(LEN - 1) mod 256` (R73, R134). -/
theorem toNat_byte_pred (len : Byte) : ((len - 1#8).toNat : Int) = ((len.toNat : Int) - 1) % 256 := by
  have := len.isLt
  rw [BitVec.toNat_sub]
  simp only [BitVec.toNat_ofNat]
  omega

/-- Settles O18: the byte is fed by R133 or R134, and only then the deadline of the frame, begun earlier, is judged. -/
theorem tickStoresLengthAndFunctionCode : Obligations.TickStoresLengthAndFunctionCode := by
  intro s now b hl hne hb
  refine ⟨fun hr => ?_, fun hr len hlen => ?_⟩
  · have hw : s.wantsByte = true := State.wantsByte_of_state hr (by decide)
    have hstate : (s.rxFeed b now).rxState = .waitingFunctionCode := by rw [State.rxFeed_length b hr]
    obtain ⟨tx, hexec⟩ := execTick_feeds hl hw hne hb (by rw [hstate]; decide)
    rw [State.rxTimeoutCheck_frame now (by rw [hstate]; decide), State.rxFeed_length b hr] at hexec
    exact ⟨_, hexec, rfl, Memory.read_write_same _ _ _, fun j hj => Memory.read_write_other _ _ hj, rfl, rfl⟩
  · have hw : s.wantsByte = true := State.wantsByte_of_state hr (by decide)
    have hlen2 : s.rxByte 2 = len := by rw [State.rxByte, hlen]; rfl
    have hstate : (s.rxFeed b now).rxState = .waitingData := by rw [State.rxFeed_functionCode b hr]
    obtain ⟨tx, hexec⟩ := execTick_feeds hl hw hne hb (by rw [hstate]; decide)
    rw [State.rxTimeoutCheck_frame now (by rw [hstate]; decide), State.rxFeed_functionCode b hr, hlen2] at hexec
    exact ⟨_, hexec, rfl, Memory.read_write_same _ _ _, fun j hj => Memory.read_write_other _ _ hj, toNat_byte_pred len, rfl, rfl, rfl⟩

/-- Settles O19: the byte is fed by R135; the last one completes the frame, which keeps the function code in slot 3. -/
theorem tickStoresOrDropsDataByte : Obligations.TickStoresOrDropsDataByte := by
  intro s now b hl hr hcount hne hb
  have hw : s.wantsByte = true := State.wantsByte_of_data hr hcount
  have hfc : (s.rxFeed b now).rxByte 3 = s.rxByte 3 := by rw [State.rxByte_rxFeed_data hr, if_neg (by omega)]
  have hstored : 4 + s.rxReceived.toNat < s.params.rxCap →
      (s.rxFeed b now).rxFb.read (4 + s.rxReceived.toNat) = some b ∧
        ∀ j, j ≠ 4 + s.rxReceived.toNat → (s.rxFeed b now).rxFb.read j = s.rxFb.read j := fun hfits => by
    rw [State.rxFeed_data b hr, if_pos hfits]
    exact ⟨Memory.read_write_same _ _ _, fun j hj => Memory.read_write_other _ _ hj⟩
  have hdropped : s.params.rxCap ≤ 4 + s.rxReceived.toNat → (s.rxFeed b now).rxFb = s.rxFb := fun hfull => by
    rw [State.rxFeed_data b hr]
    exact if_neg (not_lt.2 hfull)
  have hcounts : (s.rxFeed b now).rxReceived = s.rxReceived + 1#8 ∧ (s.rxFeed b now).rxExpected = s.rxExpected := by
    rw [State.rxFeed_data b hr]; exact ⟨rfl, rfl⟩
  obtain ⟨hreceived, hexpected⟩ := hcounts
  by_cases hlast : s.rxReceived + 1#8 = s.rxExpected
  · obtain ⟨tx, hexec⟩ := execTick_completes hl hw hne hb
      ((State.rxFeed_completes (by rw [hr]; decide)).2 ⟨hr, hlast⟩)
    rw [hfc, hexpected] at hexec
    exact ⟨_, hexec, rfl, rfl, hreceived, hexpected, hstored, hdropped, fun _ => ⟨rfl, rfl, rfl⟩, fun h => absurd hlast h⟩
  · have hstate : (s.rxFeed b now).rxState = .waitingData := by rw [State.rxFeed_data b hr]; exact if_neg hlast
    obtain ⟨tx, hexec⟩ := execTick_feeds hl hw hne hb (by rw [hstate]; decide)
    rw [State.rxTimeoutCheck_frame now (by rw [hstate]; decide), hstate] at hexec
    refine ⟨_, hexec, rfl, rfl, hreceived, hexpected, hstored, hdropped, fun h => absurd h hlast, fun _ => ⟨rfl, ?_⟩⟩
    rw [State.rxFeed_data b hr]

/-- Settles O20: the frame is complete without a byte, and is too short to be dispatched. -/
theorem frameWithoutDataTakesNoByte : Obligations.FrameWithoutDataTakesNoByte := by
  intro s now hl hr hreceived hexpected
  obtain ⟨tx, hexec⟩ := execTick_noData (now := now) hl hr (hreceived.trans hexpected.symm)
  rw [State.fired_of_short (by rw [hexpected]; decide)] at hexec
  refine ⟨_, hexec, ?_, rfl⟩
  rw [hexpected]

/-- Settles O21: nothing is read, so only R140 acts, and in `WaitingHeader` not even that. -/
theorem tickWithAnEmptyRingJudgesOnlyTheDeadline : Obligations.TickWithAnEmptyRingJudgesOnlyTheDeadline := by
  intro s now hl he
  refine ⟨fun hr => ?_, fun hr => ?_⟩
  · have hstate : s.rxState ≠ .waitingHeader ∧ s.wantsByte = true := by
      rcases hr with hr | hr | ⟨hr, hcount⟩
      · exact ⟨by rw [hr]; decide, State.wantsByte_of_state hr (by decide)⟩
      · exact ⟨by rw [hr]; decide, State.wantsByte_of_state hr (by decide)⟩
      · exact ⟨by rw [hr]; decide, State.wantsByte_of_data hr hcount⟩
    obtain ⟨hframe, hw⟩ := hstate
    obtain ⟨tx, hexec⟩ := execTick_empty (now := now) hl hw he
    rw [State.rxTimeoutCheck_frame now hframe] at hexec
    exact ⟨_, hexec, fun hlate => ⟨if_pos hlate, if_pos hlate⟩, fun hlate => ⟨if_neg hlate, if_neg hlate⟩, rfl⟩
  · obtain ⟨tx, hexec⟩ :=
      execTick_empty (now := now) hl (State.wantsByte_of_state hr (by decide)) he
    rw [State.rxTimeoutCheck_header now hr] at hexec
    exact ⟨_, hexec, rfl⟩

end Sys2Proof.Machine
end

section
/-! SUPPORT. Where the parser goes: noise fed in `WaitingHeader` (R132), and the transition table of `rx_state` (R139) over every
instruction. Settles the statement that spurious bytes hide no header, and the statement of the table. -/

namespace Sys2Proof.Machine

/-! ### Noise (R132) -/

/-- A byte that ends no header leaves the parser waiting for one, with a first magic byte held exactly when it was that byte. -/
theorem State.rxFeed_noise {s : State} {b : Byte} (now : Tick) (hr : s.rxState = .waitingHeader) (hb : (s.rxHdr1 && b == 0xA5#8) = false) :
    (s.rxFeed b now).rxState = .waitingHeader ∧ (s.rxFeed b now).rxHdr1 = (b == 0x5A#8) := by
  by_cases h5A : b = 0x5A#8
  · subst h5A
    rw [State.rxFeed_first hr]
    exact ⟨hr, rfl⟩
  · have hjunk : b ≠ 0xA5#8 ∨ s.rxHdr1 = false := by
      rcases Bool.and_eq_false_iff.1 hb with hh | hA5
      · exact .inr hh
      · exact .inl (by simpa using hA5)
    rw [State.rxFeed_junk hr h5A hjunk]
    exact ⟨hr, (beq_false_of_ne h5A).symm⟩

/-- Noise without a header leaves the parser waiting for one. -/
theorem State.feedAll_noise {s : State} (now : Tick) {junk : List Byte} (hr : s.rxState = .waitingHeader)
    (hjunk : noHeader s.rxHdr1 junk = true) : (s.feedAll now junk).rxState = .waitingHeader := by
  induction junk generalizing s with
  | nil => exact hr
  | cons b bs ih =>
    obtain ⟨hb, hbs⟩ := Bool.and_eq_true_iff.1 hjunk
    obtain ⟨hr', hh'⟩ := State.rxFeed_noise now hr (by rwa [Bool.not_eq_true'] at hb)
    exact ih (s := s.rxFeed b now) hr' (by rw [hh']; exact hbs)

/-- A header is found whether or not a first magic byte is held when it comes. -/
theorem State.feedAll_header {s : State} (now : Tick) (hr : s.rxState = .waitingHeader) :
    (s.feedAll now [0x5A#8, 0xA5#8]).rxState = .waitingLength := by
  have hfirst : (s.rxFeed 0x5A#8 now).rxState = .waitingHeader ∧ (s.rxFeed 0x5A#8 now).rxHdr1 = true := by
    rw [State.rxFeed_first hr]; exact ⟨hr, rfl⟩
  show ((s.rxFeed 0x5A#8 now).rxFeed 0xA5#8 now).rxState = .waitingLength
  rw [State.rxFeed_second hfirst.1 hfirst.2]

/-- Settles O24: the noise byte by byte, then the header. -/
theorem spuriousBytesDoNotHideAHeader : Obligations.SpuriousBytesDoNotHideAHeader := by
  intro s now junk hr hjunk
  have hwait := State.feedAll_noise now hr hjunk
  refine ⟨hwait, ?_⟩
  rw [State.feedAll, List.foldl_append]
  exact State.feedAll_header now hwait

/-! ### The transition table (R139) -/

/-- R140 keeps the state of the parser, or discards the frame in progress. -/
theorem State.rxTimeoutCheck_rxState (s : State) (now : Tick) :
    (s.rxTimeoutCheck now).rxState = s.rxState ∨
      ((s.rxTimeoutCheck now).rxState = .waitingHeader ∧ s.cfgRxTimeout < now - s.rxStartTick) := by
  rw [State.rxTimeoutCheck_eq]
  by_cases h : s.rxState ≠ .waitingHeader ∧ s.cfgRxTimeout < elapsed now s.rxStartTick
  · exact .inr ⟨if_pos h, h.2⟩
  · exact .inl (if_neg h)

/-- A `TICK` that begins with a transport error ends with the parser waiting for a header, recovered or not (R195). -/
theorem execTick_error_rxState {s t : State} {now : Tick} (hl : s.link = .transportError) (h : exec (.tick now) s = .next t) :
    t.rxState = .waitingHeader := by
  obtain ⟨hr, -, hhead, htail, htx⟩ := s.takeOp.recover_rest
  rw [execTick_error hl, State.tickBody_quiet hr (htail.trans hhead.symm) htx] at h
  split at h <;> cases h <;> exact hr

theorem State.rxFeed_done {s : State} (b : Byte) (now : Tick) (hr : s.rxState = .dataReceived) : s.rxFeed b now = s := by
  unfold State.rxFeed; rw [hr]

/-- The rows of R139 for a byte that completes no frame (R132 to R135). -/
theorem State.rxFeed_row {s : State} {b : Byte} {now : Tick} (hinc : (s.rxFeed b now).rxState ≠ .dataReceived) :
    (s.rxFeed b now).rxState = s.rxState ∨
      (s.rxState = .waitingHeader ∧ s.rxHdr1 = true ∧ b = 0xA5#8 ∧ (s.rxFeed b now).rxState = .waitingLength) ∨
      (s.rxState = .waitingLength ∧ (s.rxFeed b now).rxState = .waitingFunctionCode) ∨
      (s.rxState = .waitingFunctionCode ∧ (s.rxFeed b now).rxState = .waitingData) := by
  cases hr : s.rxState with
  | waitingHeader =>
    by_cases hsecond : s.rxHdr1 = true ∧ b = 0xA5#8
    · obtain ⟨hh, rfl⟩ := hsecond
      rw [State.rxFeed_second hr hh]
      exact .inr (.inl ⟨rfl, hh, rfl, rfl⟩)
    · exact .inl (State.rxFeed_noise now hr (by simpa using hsecond)).1
  | waitingLength => rw [State.rxFeed_length b hr]; exact .inr (.inr (.inl ⟨rfl, rfl⟩))
  | waitingFunctionCode => rw [State.rxFeed_functionCode b hr]; exact .inr (.inr (.inr ⟨rfl, rfl⟩))
  | waitingData =>
    have hlast : s.rxReceived + 1#8 ≠ s.rxExpected := fun h =>
      hinc ((State.rxFeed_completes (by rw [hr]; decide)).2 ⟨hr, h⟩)
    rw [State.rxFeed_data b hr]
    exact .inl (if_neg hlast)
  | dataReceived => exact absurd (by rw [State.rxFeed_done b now hr, hr]) hinc

/-- The start of a frame in progress stays what it is (R33). -/
theorem State.rxFeed_rxStartTick {s : State} (b : Byte) (now : Tick) (hr : s.rxState ≠ .waitingHeader) :
    (s.rxFeed b now).rxStartTick = s.rxStartTick := by
  cases hs : s.rxState with
  | waitingHeader => exact absurd hs hr
  | waitingLength => rw [State.rxFeed_length b hs]
  | waitingFunctionCode => rw [State.rxFeed_functionCode b hs]
  | waitingData => rw [State.rxFeed_data b hs]
  | dataReceived => rw [State.rxFeed_done b now hs]

/-- A parser that ends a tick in `WaitingHeader` because the deadline passed has made R139's timeout move, or no move at all. -/
theorem State.rxMove_timeout {s t : State} {now : Tick} (hl : s.link = .operational) (ht : t.rxState = .waitingHeader)
    (hlate : s.rxState ≠ .waitingHeader → s.cfgRxTimeout < now - s.rxStartTick) : s.RxMove (.tick now) t := by
  by_cases hr : s.rxState = .waitingHeader
  · exact .inl (ht.trans hr.symm)
  · exact .inr (.inr ⟨hl, .inr (.inr (.inr (.inr ⟨hr, ht, hlate hr⟩)))⟩)

/-- A byte taken from the ring moves the parser by its row, or completes the frame; then the deadline may pass. -/
theorem execTick_reads_rxMove {s t : State} {now : Tick} {b : Byte} (hl : s.link = .operational) (hw : s.wantsByte = true)
    (hne : s.rbTail ≠ s.rbHead) (hb : s.rbMem.read s.nextTail.toNat = some b) (h : exec (.tick now) s = .next t) :
    s.RxMove (.tick now) t := by
  by_cases hd : (s.rxFeed b now).rxState = .dataReceived
  · obtain ⟨hr, hlast⟩ := (State.rxFeed_completes (State.wantsByte_iff.1 hw).1).1 hd
    obtain ⟨tx, hexec⟩ := execTick_completes hl hw hne hb hd
    obtain rfl := Host.Outcome.next.inj (hexec.symm.trans h)
    exact .inr (.inr ⟨hl, .inr (.inr (.inr (.inl ⟨hr, rfl, List.mem_cons_self, .inl ⟨hlast, hne, rfl⟩⟩)))⟩)
  · obtain ⟨tx, hexec⟩ := execTick_feeds hl hw hne hb hd
    obtain rfl := Host.Outcome.next.inj (hexec.symm.trans h)
    rcases (s.rxFeed b now).rxTimeoutCheck_rxState now with hkept | ⟨hdiscarded, hlate⟩
    · rcases State.rxFeed_row hd with hrow | ⟨hr, hh, rfl, hrow⟩ | ⟨hr, hrow⟩ | ⟨hr, hrow⟩
      · exact .inl (hkept.trans hrow)
      · exact .inr (.inr ⟨hl, .inl ⟨hr, hh, hkept.trans hrow, hb, rfl⟩⟩)
      · exact .inr (.inr ⟨hl, .inr (.inl ⟨hr, hkept.trans hrow, hne, rfl⟩)⟩)
      · exact .inr (.inr ⟨hl, .inr (.inr (.inl ⟨hr, hkept.trans hrow, hne, rfl⟩))⟩)
    · refine State.rxMove_timeout hl hdiscarded fun hr => ?_
      rwa [State.rxFeed_rxStartTick b now hr, State.rxFeed_frame] at hlate

/-- Step 2 of an operational `TICK` completes a frame without data, finds the ring empty or takes a byte: each is in the table. -/
theorem execTick_rxMove {s t : State} {now : Tick} (hd : s.rxState ≠ .dataReceived) (h : exec (.tick now) s = .next t) :
    s.RxMove (.tick now) t := by
  cases hl : s.link with
  | uninit => rw [execTick_uninit hl] at h; cases h; exact .inl rfl
  | transportError => exact .inr (.inl ⟨hl, execTick_error_rxState hl h⟩)
  | operational =>
    have hstep := h
    rw [execTick_operational hl] at hstep
    obtain ⟨s1, hstep, -⟩ := State.tickBody_next hstep
    rcases State.rxStep_next hstep with ⟨hdone, -⟩ | ⟨hr, he, -⟩ | ⟨hw, he, -⟩ | ⟨hw, hne, b, hb, -⟩
    · exact absurd hdone hd
    · obtain ⟨tx, hexec⟩ := execTick_noData (now := now) hl hr he
      obtain rfl := Host.Outcome.next.inj (hexec.symm.trans h)
      exact .inr (.inr ⟨hl, .inr (.inr (.inr (.inl ⟨hr, rfl, List.mem_cons_self, .inr ⟨he, rfl⟩⟩)))⟩)
    · obtain ⟨tx, hexec⟩ := execTick_empty (now := now) hl hw he
      obtain rfl := Host.Outcome.next.inj (hexec.symm.trans h)
      rcases s.rxTimeoutCheck_rxState now with hkept | ⟨hdiscarded, hlate⟩
      · exact .inl hkept
      · exact State.rxMove_timeout hl hdiscarded fun _ => hlate
    · exact execTick_reads_rxMove hl hw hne hb h

/-- Only a `TICK` moves the parser: the resets of `INIT` find it waiting for a header already (R226). -/
theorem State.Move.rxState {i : Instr} {s t : State} (h : Move i s t) (hi : ∀ now, i ≠ .tick now) (hs : s.UninitInv) :
    t.rxState = s.rxState := by
  cases h with
  | same | build | send | register | done => rfl
  | configure n tx rx hl =>
    obtain ⟨-, -, -, -, hr, -⟩ := hs hl
    exact hr.symm
  | wipe now | tick s0 s1 now => exact absurd rfl (hi now)
  | store idx b => rw [State.storeByte_frame]
  | publish idx => rw [State.publish_frame]
  | error => unfold State.enterError; split <;> rfl
  | receive bs => rw [State.receive, State.receiveFrom_frame]

theorem exec_rxState {i : Instr} {s t : State} (hi : ∀ now, i ≠ .tick now) (hs : s.UninitInv) (h : exec i s = .next t) :
    t.rxState = s.rxState := by
  obtain ⟨u, v, hu, hm, hv⟩ := exec_move h
  have hr := hm.rxState hi (State.of_block_eq (P := State.UninitInv) (fun _ => Iff.rfl) hu hs)
  show t.block.rxState = s.block.rxState
  rw [hv, ← hu]
  exact hr

/-- Settles O25: a `TICK` moves the parser by the table, and no other instruction moves it. -/
theorem rxStateMovesOnlyByTheTable : Obligations.RxStateMovesOnlyByTheTable := by
  intro s t i hs h
  obtain ⟨-, -, -, hrx, -, -, -, huninit⟩ := hs
  by_cases hi : ∃ now, i = .tick now
  · obtain ⟨now, rfl⟩ := hi
    exact execTick_rxMove hrx.1 h
  · exact .inl (exec_rxState (fun now hnow => hi ⟨now, hnow⟩) huninit h)

end Sys2Proof.Machine
end

section
/-! SUPPORT. Where the transaction goes: what a `TICK` makes of `tx_state`, step by step (R162, R166, R170, R196), and the transition table of
`tx_state` (R164) over every instruction. Settles the statements of both. -/

namespace Sys2Proof.Machine

/-! ### Steps 3 to 5 of a `TICK` (R162, R166, R170) -/

/-- The deadline of R170 has the last word, whatever steps 3 and 4 made of `tx_state`. -/
theorem State.tickTail_txState (s : State) (now : Tick) :
    (s.tickTail now).txState =
      if s.cfgTxTimeout ≤ now - s.txSendTick then .idle else s.txLatencyStep.completeFrame.txState := by
  have hf := s.txLatencyStep.completeFrame_frame
  unfold State.tickTail
  generalize s.txLatencyStep.completeFrame = u at hf ⊢
  have hcfg : u.cfgTxTimeout = s.cfgTxTimeout ∧ u.txSendTick = s.txSendTick := by rw [hf]; exact ⟨rfl, rfl⟩
  obtain ⟨hlimit, hsend⟩ := hcfg
  rw [State.rxTimeoutCheck_eq, State.txTimeoutCheck_eq, ← hlimit, ← hsend]
  by_cases hi : u.txState = .idle
  · simp [hi]
  · simp [hi, elapsed]

/-- Where a completed frame moves `tx_state`, as one choice over R166: a read reply closes a read that awaits it, an exact acknowledgement is
received by a write that awaits it, nothing else moves. -/
theorem State.routedTx_eq (s : State) :
    s.routedTx =
      if s.rxByte 3 = 0x83#8 ∧ s.txState = .awaitingReadReply then .idle
      else if s.rxByte 3 = 0x82#8 ∧ s.rxExpected = 0x02#8 ∧ s.rxByte 4 = 0x4F#8 ∧ s.rxByte 5 = 0x4B#8 ∧
        s.txState = .awaitingWriteAck then .writeAckReceived
      else s.txState := by
  by_cases hreply : s.rxByte 3 = 0x83#8
  · rw [State.routedTx_of_reply hreply]
    by_cases hawaits : s.txState = .awaitingReadReply
    · rw [if_pos ⟨hreply, hawaits⟩, hawaits]; rfl
    · rw [if_neg fun h => hawaits h.2, if_neg (by simp [hreply]), TxState.closeRead_of_ne hawaits]
  · have hnone : ¬ (s.rxByte 3 = 0x83#8 ∧ s.txState = .awaitingReadReply) := fun h => hreply h.1
    rw [State.routedTx_of_not_reply hreply, if_neg hnone]
    simp only [State.holdsAck_iff, and_assoc]

/-- What a `TICK` of an operational block makes of `tx_state` and of the outputs: no output and the latency successor, or a frame announced and
the latency successor routed by that frame, which the RX buffer still holds; and `Idle` once the deadline has passed. -/
theorem execTick_txState {s t : State} {now : Tick} (hl : s.link = .operational) (h : exec (.tick now) s = .next t) :
    (t.outs = [] ∧ t.txState = if s.cfgTxTimeout ≤ now - s.txSendTick then .idle else s.txState.latency) ∨
      ∃ rest, t.outs = .frameDone (t.rxByte 3) t.rxExpected :: rest ∧
        t.txState = if s.cfgTxTimeout ≤ now - s.txSendTick then .idle else State.routedTx { t with txState := s.txState.latency } := by
  rw [execTick_operational hl] at h
  obtain ⟨s1, hstep, rfl⟩ := State.tickBody_next h
  obtain ⟨-, hframe⟩ := State.rxStep_frame hstep
  have hkept : s1.cfgTxTimeout = s.cfgTxTimeout ∧ s1.txSendTick = s.txSendTick ∧ s1.txState = s.txState ∧ s1.outs = [] := by
    rw [hframe]; exact ⟨rfl, rfl, rfl, rfl⟩
  obtain ⟨hlimit, hsend, htx, houts⟩ := hkept
  rw [State.reply_txState, State.reply_outs, State.tickTail_txState, hlimit, hsend]
  by_cases hd : s1.rxState = .dataReceived
  · obtain ⟨tx, htail⟩ := State.tickTail_announces now hd
    refine .inr ⟨s1.fired, ?_, ?_⟩
    · rw [htail, houts]; rfl
    · rw [State.completeFrame_eq (s := s1.txLatencyStep) hd, htail, ← htx]; rfl
  · have hno : s1.txLatencyStep.completeFrame = s1.txLatencyStep := if_neg hd
    refine .inl ⟨?_, ?_⟩
    · rw [State.tickTail_incomplete now hd]; exact houts
    · rw [hno, State.txLatencyStep_txState, htx]

/-- Settles O34: the latency successor, routed by the frame announced, under the deadline. -/
theorem tickMovesTheTransactionInStepOrder : Obligations.TickMovesTheTransactionInStepOrder := by
  intro s t now hl h latent
  have hlatent : s.txState.latency = latent := rfl
  rcases execTick_txState hl h with ⟨houts, htx⟩ | ⟨rest, houts, htx⟩
  · refine ⟨.inl houts, fun hlate => htx.trans (if_pos hlate), fun hlate => ⟨fun _ => htx.trans (if_neg hlate), fun fc nd r hr => ?_⟩⟩
    exact nomatch houts.symm.trans hr
  · refine ⟨.inr ⟨_, _, _, houts⟩, fun hlate => htx.trans (if_pos hlate), fun hlate => ⟨fun hr => ?_, fun fc nd r hr => ?_⟩⟩
    · exact nomatch houts.symm.trans hr
    · obtain ⟨hdone, -⟩ := List.cons.inj (houts.symm.trans hr)
      obtain ⟨rfl, rfl⟩ := Output.frameDone.inj hdone
      rw [htx, if_neg hlate, State.routedTx_eq, hlatent]
      rfl

/-! ### The transition table (R164) -/

theorem TxState.latency_eq_awaitingReadReply {x : TxState} (h : x.latency = .awaitingReadReply) :
    x = .awaitingReadReply ∨ x = .readSendComplete := by
  revert h
  cases x <;> decide

theorem TxState.latency_eq_awaitingWriteAck {x : TxState} (h : x.latency = .awaitingWriteAck) :
    x = .awaitingWriteAck ∨ x = .writeSendComplete := by
  revert h
  cases x <;> decide

/-- The latency transition alone is in the table, as `ReadReplyReceived` never holds between operations (R35). -/
theorem State.txMove_latency {s t : State} {now : Tick} (hl : s.link = .operational) (hx : s.txState ≠ .readReplyReceived)
    (ht : t.txState = s.txState.latency) : s.TxMove (.tick now) t := by
  cases hs : s.txState <;> rw [hs] at ht
  case readReplyReceived => exact absurd hs hx
  case writeSendComplete => exact .inr (.inr ⟨hl, .inr (.inl ⟨hs, ht⟩)⟩)
  case readSendComplete => exact .inr (.inr ⟨hl, .inr (.inr (.inl ⟨hs, ht⟩))⟩)
  case writeAckReceived => exact .inr (.inr ⟨hl, .inr (.inr (.inr (.inl ⟨hs, ht⟩)))⟩)
  all_goals exact .inl (ht.trans hs.symm)

/-- The latency transition routed by the frame announced is in the table: a reply closes a read, an acknowledgement is received by a write. -/
theorem State.txMove_routed {s t : State} {now : Tick} (hl : s.link = .operational) (hx : s.txState ≠ .readReplyReceived)
    (hdone : Output.frameDone (t.rxByte 3) t.rxExpected ∈ t.outs)
    (ht : t.txState = State.routedTx { t with txState := s.txState.latency }) : s.TxMove (.tick now) t := by
  rw [State.routedTx_eq] at ht
  split_ifs at ht with hreply hack
  · obtain ⟨hfc, hawaits⟩ := hreply
    have hfc : t.rxByte 3 = 0x83#8 := hfc
    exact .inr (.inr ⟨hl, .inr (.inr (.inr (.inr (.inr
      ⟨TxState.latency_eq_awaitingReadReply hawaits, ht, t.rxExpected, hfc ▸ hdone⟩))))⟩)
  · obtain ⟨hfc, hexp, -, -, hawaits⟩ := hack
    have hfc : t.rxByte 3 = 0x82#8 := hfc
    have hexp : t.rxExpected = 0x02#8 := hexp
    exact .inr (.inr ⟨hl, .inr (.inr (.inr (.inr (.inl
      ⟨TxState.latency_eq_awaitingWriteAck hawaits, ht, hfc ▸ hexp ▸ hdone⟩))))⟩)
  · exact State.txMove_latency hl hx ht

/-- A `TICK` that begins with a transport error ends with no open transaction, recovered or not (R195). -/
theorem execTick_error_txState {s t : State} {now : Tick} (hl : s.link = .transportError) (h : exec (.tick now) s = .next t) :
    t.txState = .idle := by
  obtain ⟨hr, -, hhead, htail, htx⟩ := s.takeOp.recover_rest
  rw [execTick_error hl, State.tickBody_quiet hr (htail.trans hhead.symm) htx] at h
  split at h <;> cases h <;> exact htx

theorem execTick_txMove {s t : State} {now : Tick} (hx : s.txState ≠ .readReplyReceived) (h : exec (.tick now) s = .next t) :
    s.TxMove (.tick now) t := by
  cases hl : s.link with
  | uninit => rw [execTick_uninit hl] at h; cases h; exact .inl rfl
  | transportError => exact .inr (.inl ⟨hl, execTick_error_txState hl h⟩)
  | operational =>
    have hmove := execTick_txState hl h
    by_cases hlate : s.cfgTxTimeout ≤ now - s.txSendTick
    · rw [if_pos hlate, if_pos hlate] at hmove
      exact .inr (.inr ⟨hl, .inl ⟨hlate, hmove.elim And.right fun ⟨_, _, ht⟩ => ht⟩⟩)
    · rw [if_neg hlate, if_neg hlate] at hmove
      rcases hmove with ⟨-, ht⟩ | ⟨rest, houts, ht⟩
      · exact State.txMove_latency hl hx ht
      · exact State.txMove_routed hl hx (houts ▸ List.mem_cons_self) ht

/-- The resets of `INIT` find no transaction open (R226). -/
theorem execInit_txState {n : Nat} {tx rx : Tick} {s t : State} (hs : s.UninitInv) (h : exec (.init n tx rx) s = .next t) :
    t.txState = s.txState := by
  by_cases hl : s.link = .uninit
  · obtain ⟨-, -, -, -, -, -, hidle, -⟩ := hs hl
    by_cases hn : 2 ≤ n
    · by_cases hm : n ≤ s.params.rbMax
      · rw [execInit_offered hl hn hm] at h
        split at h <;> cases h
        · exact hidle.symm
        · simp
      · rw [execInit_allocFail hl hn (not_le.1 hm)] at h; cases h; rfl
    · rw [execInit_invalidArg hl (not_le.1 hn)] at h; cases h; rfl
  · rw [execInit_busy hl] at h; cases h; rfl

theorem execRegisterCb_txState {addr : VpAddr} {tag : Nat} {s t : State} (h : exec (.registerCb addr tag) s = .next t) :
    t.txState = s.txState := by
  by_cases hl : s.link = .operational
  · by_cases hc : s.cbN = s.params.cbCap
    · rw [execRegisterCb_capacity hl hc] at h; cases h; rfl
    · rw [execRegisterCb_ok hl hc] at h; cases h; rfl
  · rw [execRegisterCb_notReady hl] at h; cases h; rfl

theorem State.receive_txState (s : State) (bs : List Byte) : (s.receive bs).txState = s.txState := by
  rw [State.receive, State.receiveFrom_frame]

/-- Settles O36: requests, `TX_DONE` and `TICK` move `tx_state` by the table, and no other instruction moves it; `rst` clears it. -/
theorem txStateMovesOnlyByTheTable : Obligations.TxStateMovesOnlyByTheTable := by
  refine ⟨fun s t i hs h => ?_, fun s hr => ⟨s.applyRst, if_pos hr, rfl⟩⟩
  obtain ⟨-, -, -, -, ⟨hx, -⟩, -, -, huninit⟩ := hs
  cases i with
  | init n tx rx => exact .inl (execInit_txState huninit h)
  | tick now => exact execTick_txMove hx h
  | writeVp | readVp => cases h; exact s.takeOp.request_txState _ _ _ _
  | registerCb addr tag => exact .inl (execRegisterCb_txState h)
  | isIdle => cases h; exact .inl rfl
  | rbWrite idx b => cases h; exact .inl (by rw [State.storeByte_frame]; rfl)
  | rxProgress idx => cases h; exact .inl (by rw [State.publish_frame]; rfl)
  | txDone => cases h; exact s.txState.done_cases
  | xportErr =>
    cases h
    rcases s.takeOp.enterError_cases with he | ⟨-, he⟩ <;> exact .inl (by rw [he]; rfl)
  | writeReq | readReq => cases h; exact s.takeOp.drawFree.request_txState _ _ _ _
  | writeAck => rw [exec_writeAck] at h; rw [← Host.Outcome.next.inj h]; exact .inl (s.takeOp.receive_txState _)
  | readReply len data => cases h; exact .inl (s.takeOp.receive_txState _)

end Sys2Proof.Machine
end

section
/-! SUPPORT. The requests `WRITE_VP` and `READ_VP` (R150 to R155), whole and issued again after a refused hand-off, and the operations that
depend on no link state (R158, R160). Settles the statements about them. -/

namespace Sys2Proof.Machine

/-! ### The requests, with the argument check done -/

theorem writeArgsOk_iff {txCap count : Nat} :
    writeArgsOk txCap count = true ↔ count ≠ 0 ∧ count ≤ 126 ∧ 2 * count + 6 ≤ txCap := by
  simp only [writeArgsOk, Bool.and_eq_true, bne_iff_ne, decide_eq_true_eq, and_assoc]

theorem exec_writeVp {s : State} {addr : VpAddr} {values : List Value} {now : Tick} {argsOk : Bool}
    (h : writeArgsOk s.params.txCap values.length = argsOk) :
    exec (.writeVp addr values now) s = .next (s.takeOp.request argsOk (writeFrame addr values) .sendingWrite now) := by
  rw [← h]; rfl

theorem exec_readVp {s : State} {addr : VpAddr} {count : Byte} {now : Tick} {argsOk : Bool} (h : readArgsOk count = argsOk) :
    exec (.readVp addr count now) s = .next (s.takeOp.request argsOk (readFrame addr count) .sendingRead now) := by
  rw [← h]; rfl

/-- Settles O26: the request is refused test by test, or builds the frame of R81 and sends it. -/
theorem writeVpBuildsSendsAndRefuses : Obligations.WriteVpBuildsSendsAndRefuses := by
  intro s addr values now count frame legal
  refine ⟨fun hl => ?_, fun hl hb => ?_, fun hl hi hbad => ?_, fun hl hi hlegal => ?_⟩
  · rw [exec_writeVp rfl, State.request_notReady (s := s.takeOp) hl]; rfl
  · rw [exec_writeVp rfl, State.request_busy (s := s.takeOp) hl hb]; rfl
  · have hargs : writeArgsOk s.params.txCap values.length = false := Bool.eq_false_iff.2 fun h => hbad (writeArgsOk_iff.1 h)
    rw [exec_writeVp hargs, State.request_invalid (s := s.takeOp) hl hi]; rfl
  · have hsent := State.request_sent (writeFrame addr values) .sendingWrite now hl hi
    have hlen : (writeFrame addr values).length = 2 * count + 6 := length_writeFrame addr values
    rw [exec_writeVp (writeArgsOk_iff.2 hlegal), ← hlen]
    exact ⟨_, rfl, hsent.outs, hsent.txLen, hsent.built, hsent.kept, hsent.refused, hsent.accepted⟩

/-- Settles O27: the request is refused test by test, or builds the frame of R83 and sends it. -/
theorem readVpBuildsSendsAndRefuses : Obligations.ReadVpBuildsSendsAndRefuses := by
  intro s addr count now frame
  refine ⟨fun hl => ?_, fun hl hb => ?_, fun hl hi hcount => ?_, fun hl hi hcount => ?_⟩
  · rw [exec_readVp rfl, State.request_notReady (s := s.takeOp) hl]; rfl
  · rw [exec_readVp rfl, State.request_busy (s := s.takeOp) hl hb]; rfl
  · rw [exec_readVp (show readArgsOk count = false by rw [hcount]; rfl), State.request_invalid (s := s.takeOp) hl hi]; rfl
  · have hsent := State.request_sent (readFrame addr count) .sendingRead now hl hi
    rw [exec_readVp (bne_iff_ne.2 hcount)]
    exact ⟨_, rfl, hsent.outs, hsent.txLen, hsent.built, hsent.kept, hsent.refused, hsent.accepted⟩

/-! ### The same request, issued again (R153) -/

/-- A request with legal arguments that the transport refuses and then accepts: refused, it leaves the block as ready for it as before;
accepted, it opens the transaction with the same output. -/
theorem exec_request_repeatable {s : State} {i : Instr} {frame : List Byte} {sending : TxState} {now : Tick}
    (hreq : ∀ u : State, u.params = s.params → exec i u = .next (u.takeOp.request true frame sending now)) (hsending : sending ≠ .idle)
    (hl : s.link = .operational) (hi : s.txState = .idle) (href : s.nextAnswer = false) :
    ∃ t, exec i s = .next t ∧ t.answer = some ⟨.xportErr, none⟩ ∧ t.txState = .idle ∧ t.txSendTick = s.txSendTick ∧
      t.link = .operational ∧
      (s.popAnswer.nextAnswer = true →
        ∃ u, exec i t = .next u ∧ u.answer = some ⟨.ok, none⟩ ∧ u.txState ≠ .idle ∧ u.outs = t.outs) := by
  have hsent := State.request_sent frame sending now hl hi
  have ht := hsent.refused href
  have houts := hsent.outs
  refine ⟨_, hreq s rfl, ?_⟩
  generalize s.takeOp.request true frame sending now = t at ht houts ⊢
  have hparams : t.params = s.params := by rw [ht]; exact s.popAnswer_params
  have hidle : t.txState = .idle := by rw [ht]; exact s.popAnswer_txState.trans hi
  have hlink : t.link = .operational := by rw [ht]; exact s.popAnswer_link.trans hl
  have hnext : t.nextAnswer = s.popAnswer.nextAnswer := by rw [ht]; rfl
  refine ⟨by rw [ht], hidle, by rw [ht]; exact s.popAnswer_txSendTick, hlink, fun haccepts => ?_⟩
  have hagain := State.request_sent frame sending now hlink hidle
  have hu := hagain.accepted (hnext.trans haccepts)
  exact ⟨_, hreq t hparams, by rw [hu], by rw [hu]; exact hsending, hagain.outs.trans houts.symm⟩

/-- Settles O28: either request, with its arguments legal, is the request that may be repeated. -/
theorem refusedHandOffMayBeRepeated : Obligations.RefusedHandOffMayBeRepeated := by
  rintro s i (⟨addr, values, now, rfl, hlegal⟩ | ⟨addr, count, now, rfl, hcount⟩) hl hi href
  · exact exec_request_repeatable (fun u hu => exec_writeVp (hu ▸ writeArgsOk_iff.2 hlegal)) nofun hl hi href
  · exact exec_request_repeatable (fun _ _ => exec_readVp (bne_iff_ne.2 hcount)) nofun hl hi href

/-! ### `TX_DONE` and `IS_IDLE` (R158, R160) -/

theorem TxState.done_eq (x : TxState) :
    x.done = if x = .sendingWrite then .writeSendComplete else if x = .sendingRead then .readSendComplete else x := by
  cases x <;> rfl

/-- Settles O32: the event is `TxState.done` on `tx_state`, in every link state. -/
theorem txDoneMovesOnlySendingStates : Obligations.TxDoneMovesOnlySendingStates := by
  intro s
  rw [← TxState.done_eq]
  rfl

/-- Settles O33: the bit is the derived `idle` of R42, which the status output shows too. -/
theorem isIdleIsAPureQuery : Obligations.IsIdleIsAPureQuery := fun s => ⟨s.idle, rfl, decide_eq_true_iff, rfl⟩

end Sys2Proof.Machine
end

section
/-! SUPPORT. The callback registry (R180, R183): what registering puts into the table, and `dispatch` by what its scan finds. Settles the
statements of the family. -/

namespace Sys2Proof.Machine

/-! ### Registration -/

theorem State.addCb_cbN (s : State) (addr : VpAddr) (tag : Nat) : (s.addCb addr tag).cbN = s.cbN + 1 := List.length_append

/-- The new slot is slot `cb_n`; a tag of `CB_TAG_W` bits is stored as it is. -/
theorem State.addCb_newSlot {s : State} {tag : Nat} (addr : VpAddr) (htag : tag < 2 ^ s.params.cbTagW) :
    (s.addCb addr tag).cbs[s.cbN]? = some { addr := addr, tag := tag } := by
  rw [State.addCb_cbs, Nat.mod_eq_of_lt htag]; exact List.getElem?_concat_length

theorem State.addCb_earlierSlot {s : State} {i : Nat} (addr : VpAddr) (tag : Nat) (hi : i < s.cbN) :
    (s.addCb addr tag).cbs[i]? = s.cbs[i]? := List.getElem?_append_left hi

/-- Settles O38: two refusals, test by test, or slot `cb_n` is appended to the table. -/
theorem registerCbFillsTheNextSlot : Obligations.RegisterCbFillsTheNextSlot := by
  intro s addr tag
  refine ⟨execRegisterCb_notReady, execRegisterCb_capacity, fun hl hc htag => ⟨_, execRegisterCb_ok hl hc, ?_, ?_, ?_, rfl⟩⟩
  · exact s.takeOp.addCb_cbN addr tag
  · exact State.addCb_newSlot (s := s.takeOp) addr htag
  · exact fun i hi => State.addCb_earlierSlot (s := s.takeOp) addr tag hi

/-! ### Dispatch -/

theorem State.dispatch_of_short {s : State} (h : s.rxExpected.toNat < 3) : s.dispatch = s := if_pos h

theorem State.dispatch_of_lookup_none {s : State} (hl : cbLookup s.replyAddr 0 s.cbs = none) : s.dispatch = s := by
  rw [State.dispatch, hl]; exact ite_self _

/-- A frame with three or more data bytes fires the lowest slot that watches its address. -/
theorem State.dispatch_of_watched {s : State} {i : Nat} {c : CbSlot} (h3 : 3 ≤ s.rxExpected.toNat) (hi : s.cbs[i]? = some c)
    (ha : c.addr = s.replyAddr) (hfirst : ∀ j d, j < i → s.cbs[j]? = some d → d.addr ≠ s.replyAddr) :
    s.dispatch = s.emit (s.fireOutput i c) := by
  rw [State.dispatch, if_neg (not_lt.2 h3), cbLookup_first hi ha hfirst, Nat.zero_add]

/-- Settles O39: a short frame, an address nobody watches, or the slot the scan reaches first. -/
theorem dispatchFiresTheFirstMatch : Obligations.DispatchFiresTheFirstMatch := by
  intro s a plen
  refine ⟨State.dispatch_of_short, fun _ hno => ?_, fun h3 i c hi ha hfirst => ?_⟩
  · exact State.dispatch_of_lookup_none (cbLookup_none hno)
  · exact State.dispatch_of_watched h3 hi ha hfirst

end Sys2Proof.Machine
end

section
/-! SUPPORT. Initialisation, the engine tick and the transport error event (R190 to R201): the outputs a `TICK` can have, what it leaves
unchanged, recovery's three outcomes, and a step with nothing offered. Settles the statements about them. -/

namespace Sys2Proof.Machine

/-! ### A step with nothing offered (R201) -/

theorem State.granted_of_empty {s : State} (hh : s.hostPort = []) (hx : s.xportPort = []) : s.granted = none := by
  rw [State.granted, hh, hx]

/-- Settles O5: no port is served, and the step answers the state it was given. -/
theorem nothingOfferedChangesNothing : Obligations.NothingOfferedChangesNothing := by
  intro s hrst hh hx
  rcases step_cases s with ⟨hr, -⟩ | ⟨-, -, hstep⟩ | ⟨p, -, hg, -⟩
  · exact absurd (hrst.symm.trans hr) (by decide)
  · exact hstep
  · exact nomatch (State.granted_of_empty hh hx).symm.trans hg

/-! ### `XPORT_ERR` and `INIT` (R190, R193) -/

/-- Settles O42: the event is `State.enterError`, which acts only on an operational block. -/
theorem xportErrChangesOnlyLink : Obligations.XportErrChangesOnlyLink := fun _ =>
  ⟨fun hl => congrArg Host.Outcome.next (if_pos hl), fun hl => congrArg Host.Outcome.next (if_neg hl)⟩

/-- Emitting an output commutes with using an answer up. -/
theorem State.popAnswer_emit (s : State) (o : Output) : (s.emit o).popAnswer = s.popAnswer.emit o := by
  simp only [State.popAnswer_eq, State.emit]

/-- The resets of R190 and R195 as one record update. -/
theorem State.wipe_eq (s : State) :
    s.wipe = { s with
      rxState := .waitingHeader, rxHdr1 := false, txState := .idle, rbHead := -1, rbTail := -1, rbOvf := false } := rfl

/-- Settles O41: the refusals test by test, then the transport's answer. -/
theorem initConfiguresOrRefuses : Obligations.InitConfiguresOrRefuses := by
  intro s n tx rx
  refine ⟨execInit_busy, execInit_invalidArg, execInit_allocFail, fun hl hn hm ha => ?_, fun hl hn hm ha => ?_⟩
  · rw [execInit_offered hl hn hm, ha, State.popAnswer_emit, State.popAnswer_takeOp]; rfl
  · rw [execInit_offered hl hn hm, if_pos ha, State.popAnswer_emit, State.popAnswer_takeOp, State.wipe_eq]; rfl

/-! ### Recovery (R195) -/

/-- Settles O43: the three outcomes of `recover()`; after an accepted one steps 2 to 5 find no byte, no frame and no transaction. -/
theorem tickRecoversFromTransportError : Obligations.TickRecoversFromTransportError := by
  intro s now hl
  rw [execTick_error hl]
  refine ⟨fun habort => ?_, fun habort hstart => ?_, fun habort hstart => ?_⟩
  · rw [State.recover_abortRefused (s := s.takeOp) habort, State.popAnswer_takeOp]; rfl
  · rw [State.recover_startRefused (s := s.takeOp) habort (by rw [State.popAnswer_takeOp]; exact hstart), State.popAnswer_takeOp,
      State.popAnswer_takeOp]; rfl
  · rw [State.recover_accepted (s := s.takeOp) habort (by rw [State.popAnswer_takeOp]; exact hstart), if_pos rfl,
      State.tickBody_quiet rfl rfl rfl, State.popAnswer_takeOp, State.popAnswer_takeOp]; rfl

/-- A `TICK` that begins with a transport error unsets the tail, asks for an abort, and for a restart if the abort was accepted. -/
theorem execTick_error_emits {s t : State} {now : Tick} (hl : s.link = .transportError) (h : exec (.tick now) s = .next t) :
    t.rbTail = -1 ∧ (t.outs = [.xpAbort] ∨ t.outs = [.xpAbort, .xpRxStart s.cfgN]) := by
  obtain ⟨hrefused, hnoStart, haccepted⟩ := tickRecoversFromTransportError s now hl
  cases habort : s.nextAnswer with
  | false => obtain rfl := Host.Outcome.next.inj ((hrefused habort).symm.trans h); exact ⟨rfl, .inl rfl⟩
  | true =>
    cases hstart : s.popAnswer.nextAnswer with
    | false => obtain rfl := Host.Outcome.next.inj ((hnoStart habort hstart).symm.trans h); exact ⟨rfl, .inr rfl⟩
    | true => obtain rfl := Host.Outcome.next.inj ((haccepted habort hstart).symm.trans h); exact ⟨rfl, .inr rfl⟩

/-! ### A `TICK` of an operational block (R196) -/

/-- A `TICK` of an operational block answers `OK`, moves the tail by one pop or not at all, and writes only the parser's elements,
`tx_state` and what it answers and emits. -/
theorem execTick_operational_frame {s t : State} {now : Tick} (hl : s.link = .operational) (h : exec (.tick now) s = .next t) :
    t.answer = some ⟨.ok, none⟩ ∧ (t.rbTail = s.rbTail ∨ t.rbTail = s.nextTail) ∧
      t = { s with
        rbTail := t.rbTail, rxState := t.rxState, rxHdr1 := t.rxHdr1, rxFb := t.rxFb, rxExpected := t.rxExpected
        rxReceived := t.rxReceived, rxStartTick := t.rxStartTick, txState := t.txState
        answer := t.answer, outs := t.outs } := by
  rw [execTick_operational hl] at h
  obtain ⟨s1, hstep, rfl⟩ := State.tickBody_next h
  obtain ⟨htail, hframe⟩ := State.rxStep_frame hstep
  have hrest := s1.tickTail_frame now
  generalize s1.tickTail now = u at hrest ⊢
  rw [hrest]
  exact ⟨rfl, htail, by rw [hframe]; rfl⟩

/-- The outputs of a `TICK` of an operational block: where step 2 leaves a complete frame, its announcement and the callback it fires. -/
theorem execTick_operational_outs {s t : State} {now : Tick} (hl : s.link = .operational) (h : exec (.tick now) s = .next t) :
    ∃ s1, s.takeOp.rxStep now = .next s1 ∧ (s1.rxState ≠ .dataReceived → t.outs = []) ∧
      (s1.rxState = .dataReceived → t.outs = .frameDone (t.rxByte 3) t.rxExpected :: t.fired) := by
  rw [execTick_operational hl] at h
  obtain ⟨s1, hstep, rfl⟩ := State.tickBody_next h
  obtain ⟨-, hframe⟩ := State.rxStep_frame hstep
  have houts : s1.outs = [] := by rw [hframe]; rfl
  refine ⟨s1, hstep, fun hinc => ?_, fun hd => ?_⟩
  · rw [State.reply_outs, State.tickTail_incomplete now hinc]; exact houts
  · obtain ⟨tx, htail⟩ := State.tickTail_announces now hd
    rw [State.reply_outs, htail, houts]; rfl

/-- A `TICK` ends, unless the byte step 2 pops has no value (R49). -/
theorem execTick_completes_of_popReady {s : State} (now : Tick) (hp : s.PopReady) :
    ∃ t, exec (.tick now) s = .next t := by
  cases hx : exec (.tick now) s with
  | next t => exact ⟨t, rfl⟩
  | fault f =>
    obtain ⟨-, hw, hne, hnone, -⟩ := execTick_fault.1 hx
    exact absurd (hp hw hne) (by simp [hnone])
  | refused r => exact absurd hx execTick_refused

/-- Settles O44: nothing stops the tick, and its frame is known. -/
theorem tickRunsToItsEnd : Obligations.TickRunsToItsEnd := by
  intro s now hl hp
  obtain ⟨t, ht⟩ := execTick_completes_of_popReady now hp
  obtain ⟨hok, -, hframe⟩ := execTick_operational_frame hl ht
  exact ⟨t, ht, hok, hframe⟩

/-- Settles O55: step 2 completes a frame in the two cases named; what is then emitted follows the class of the frame. -/
theorem tickAnnouncesAndDispatches : Obligations.TickAnnouncesAndDispatches := by
  intro s t now hl hd h completes done a plen
  obtain ⟨s1, hstep, hquiet, hannounced⟩ := execTick_operational_outs hl h
  have hcompletes : s1.rxState = .dataReceived ↔ completes := State.rxStep_completes (s := s.takeOp) hd hstep
  obtain ⟨-, -, hframe⟩ := execTick_operational_frame hl h
  have hparams : t.params = s.params := by rw [hframe]
  have hcbs : t.cbs = s.cbs := by rw [hframe]
  refine ⟨fun hno => hquiet (mt hcompletes.1 hno), fun hyes => ?_⟩
  have houts : t.outs = done :: t.fired := hannounced (hcompletes.2 hyes)
  rw [houts, ← hcbs]
  refine ⟨?_, fun hfc h3 i c hi ha hfirst => ?_⟩
  · rintro (hfc | hshort | hnobody)
    · rw [State.fired_of_not_reply hfc]
    · rw [State.fired_of_short hshort]
    · rw [State.fired_of_lookup_none (cbLookup_none hnobody)]
  · have hplen : plen = t.replyPlen := by rw [State.replyPlen, State.rxStored, hparams]
    rw [State.fired_of_watched hfc h3 hi ha hfirst, hplen]; rfl

/-! ### The outputs of any `TICK` (R200) -/

/-- The outputs one `TICK` can have: none, a frame announced and perhaps delivered, or recovery's requests. -/
inductive TickOutputs : List Output → Prop
  | quiet : TickOutputs []
  | announced (fc nd : Byte) : TickOutputs [.frameDone fc nd]
  | delivered (fc nd : Byte) (slot tag : Nat) (addr : VpAddr) (count : Byte) (plen : Nat) (payload : List Byte) :
      TickOutputs [.frameDone fc nd, .cbFire slot tag addr count plen payload]
  | aborted : TickOutputs [.xpAbort]
  | restarted (cap : Nat) : TickOutputs [.xpAbort, .xpRxStart cap]

/-- A frame fires at most one callback (R183). -/
theorem State.fired_cases (s : State) : s.fired = [] ∨ ∃ i c, s.fired = [s.fireOutput i c] := by
  unfold State.fired
  split
  · split
    · exact .inr ⟨_, _, rfl⟩
    · exact .inl rfl
  · exact .inl rfl

theorem execTick_outputs {s t : State} {now : Tick} (h : exec (.tick now) s = .next t) : TickOutputs t.outs := by
  cases hl : s.link with
  | uninit => rw [execTick_uninit hl] at h; cases h; exact .quiet
  | transportError =>
    rcases (execTick_error_emits hl h).2 with houts | houts <;> rw [houts]
    · exact .aborted
    · exact .restarted s.cfgN
  | operational =>
    obtain ⟨s1, -, hquiet, hannounced⟩ := execTick_operational_outs hl h
    by_cases hd : s1.rxState = .dataReceived
    · rw [hannounced hd]
      rcases t.fired_cases with hf | ⟨i, c, hf⟩ <;> rw [hf]
      · exact .announced _ _
      · exact .delivered _ _ _ _ _ _ _ _
    · rw [hquiet hd]; exact .quiet

/-- Where a `TICK` leaves the tail (R138, R195). -/
theorem execTick_rbTail {s t : State} {now : Tick} (h : exec (.tick now) s = .next t) :
    t.rbTail = s.rbTail ∨ t.rbTail = s.nextTail ∨ (s.link = .transportError ∧ t.rbTail = -1) := by
  cases hl : s.link with
  | uninit => rw [execTick_uninit hl] at h; cases h; exact .inl rfl
  | transportError => exact .inr (.inr ⟨rfl, (execTick_error_emits hl h).1⟩)
  | operational => exact (execTick_operational_frame hl h).2.1.imp_right .inl

/-- Settles O22: each of the outputs a `TICK` can have holds at most one of each kind, and no transmission. -/
theorem tickDoesAtMostOneOfEach : Obligations.TickDoesAtMostOneOfEach := by
  intro s t now h
  refine ⟨execTick_rbTail h, ?_⟩
  have hout := execTick_outputs h
  generalize t.outs = outs at hout ⊢
  cases hout with
  | quiet | announced | delivered | aborted | restarted => simp

end Sys2Proof.Machine
end

section
/-! SUPPORT. Results and exceptions (R210, R211, R226): when an instruction answers `NOT_READY`, and what every instruction leaves by the
result it answers. Settles the statements of the family. -/

namespace Sys2Proof.Machine

/-! ### `NOT_READY` (R226) -/

/-- An instruction answers `NOT_READY` in this link state: before `INIT` a `TICK`, outside `Operational` what sends or registers (R226). -/
def Link.NotReadyFor (l : Link) (i : Instr) : Prop :=
  match i with
  | .tick _ => l = .uninit
  | .writeVp _ _ _ | .readVp _ _ _ | .registerCb _ _ | .writeReq _ _ _ | .readReq _ _ => l ≠ .operational
  | _ => False

theorem Link.not_notReadyFor_of_operational (i : Instr) : ¬ Link.operational.NotReadyFor i := by
  cases i with
  | tick => exact nofun
  | writeVp | readVp | registerCb | writeReq | readReq => exact fun h => h rfl
  | init | isIdle | rbWrite | rxProgress | txDone | xportErr | writeAck | readReply => exact id

/-- `t` is `s` after an operation that did nothing but answer `c` (R211). -/
structure State.Refused (s : State) (c : Result) (t : State) : Prop where
  answer : t.answer = some ⟨c, none⟩
  block : t.block = s.block
  outs : t.outs = []

theorem State.refused_reply (s : State) (c : Result) : s.Refused c (s.takeOp.reply c) := ⟨rfl, rfl, rfl⟩

theorem exec_refused_notReady {i : Instr} {s t : State} (hl : s.link.NotReadyFor i) (h : exec i s = .next t) : s.Refused .notReady t := by
  cases i with
  | tick now => rw [execTick_uninit hl] at h; cases h; exact s.refused_reply _
  | registerCb addr tag => rw [execRegisterCb_notReady hl] at h; cases h; exact s.refused_reply _
  | writeVp addr values now =>
    rw [exec_writeVp rfl, State.request_notReady (s := s.takeOp) hl] at h; cases h; exact s.refused_reply _
  | readVp addr count now =>
    rw [exec_readVp rfl, State.request_notReady (s := s.takeOp) hl] at h; cases h; exact s.refused_reply _
  | writeReq len addr body =>
    rw [exec_writeReq rfl, State.request_notReady (s := s.drawFree.takeOp) hl] at h; cases h; exact ⟨rfl, rfl, rfl⟩
  | readReq addr count =>
    rw [exec_readReq rfl, State.request_notReady (s := s.drawFree.takeOp) hl] at h; cases h; exact ⟨rfl, rfl, rfl⟩
  | init | isIdle | rbWrite | rxProgress | txDone | xportErr | writeAck | readReply => exact hl.elim

/-! ### The result an instruction answers, and what it leaves (R211) -/

/-- What an instruction leaves that answers `XPORT_ERR`: the exceptions of R211. -/
def State.LeftByXportErr (s : State) (i : Instr) (t : State) : Prop :=
  match i with
  | .init n _ _ => t.block = s.block ∧ t.outs = [.xpRxStart n]
  | .tick _ => t.block = s.wipe.block ∧ (t.outs = [.xpAbort] ∨ t.outs = [.xpAbort, .xpRxStart s.cfgN])
  | .writeVp _ _ _ | .readVp _ _ _ | .writeReq _ _ _ | .readReq _ _ =>
    t.block = State.block { s with txFb := t.txFb, txLen := t.txLen } ∧ ∃ bytes, t.outs = [.xpTxStart bytes]
  | _ => False

/-- The four ways an instruction can answer. -/
inductive State.Answered (s : State) (i : Instr) (t : State) : Prop
  /-- A transport event answers nothing. -/
  | silent : t.answer = none → Answered s i t
  | done (bit : Option Bool) : t.answer = some ⟨.ok, bit⟩ → Answered s i t
  /-- An error found before anything was done. -/
  | refused (c : Result) : c ≠ .xportErr → (c = .notReady → s.link.NotReadyFor i) → s.Refused c t → Answered s i t
  /-- The transport refused a request of the block's. -/
  | xportErr : t.answer = some ⟨.xportErr, none⟩ → s.LeftByXportErr i t → Answered s i t

/-- The request behind four instructions, from a state with the block's elements of `s`. -/
theorem State.request_answered {s u : State} {i : Instr} (hu : u.block = s.block) (argsOk : Bool) (frame : List Byte) (sending : TxState)
    (now : Tick) (hready : ∀ l : Link, l ≠ .operational → l.NotReadyFor i)
    (hleft : ∀ t, (t.block = State.block { s with txFb := t.txFb, txLen := t.txLen } ∧ ∃ bytes, t.outs = [.xpTxStart bytes]) →
      s.LeftByXportErr i t) :
    s.Answered i (u.takeOp.request argsOk frame sending now) := by
  have hlink : u.block.link = s.block.link := congrArg State.link hu
  by_cases hl : u.link = .operational
  · by_cases hi : u.txState = .idle
    · cases argsOk with
      | false => rw [State.request_invalid (s := u.takeOp) hl hi]; exact .refused .invalidArg nofun nofun ⟨rfl, hu, rfl⟩
      | true =>
        have hsent := State.request_sent frame sending now hl hi
        generalize u.takeOp.request true frame sending now = t at hsent ⊢
        cases ha : u.nextAnswer with
        | true => exact .done none (by rw [hsent.accepted ha])
        | false =>
          have ht := hsent.refused ha
          refine .xportErr (by rw [ht]) (hleft t ⟨?_, frame, hsent.outs⟩)
          calc t.block
            _ = State.block { u with txFb := t.txFb, txLen := t.txLen } := by rw [ht, State.popAnswer_eq]; rfl
            _ = State.block { s with txFb := t.txFb, txLen := t.txLen } :=
              congrArg (fun v : State => { v with txFb := t.txFb, txLen := t.txLen }) hu
    · rw [State.request_busy (s := u.takeOp) hl hi]; exact .refused .busy nofun nofun ⟨rfl, hu, rfl⟩
  · rw [State.request_notReady (s := u.takeOp) hl]
    exact .refused .notReady nofun (fun _ => hready _ fun h => hl (hlink.trans h)) ⟨rfl, hu, rfl⟩

theorem execInit_answered {n : Nat} {tx rx : Tick} {s t : State} (h : exec (.init n tx rx) s = .next t) : s.Answered (.init n tx rx) t := by
  by_cases hl : s.link = .uninit
  · by_cases hn : 2 ≤ n
    · by_cases hm : n ≤ s.params.rbMax
      · rw [execInit_offered hl hn hm] at h
        rw [← Host.Outcome.next.inj h]
        split
        · exact .done none rfl
        · exact .xportErr rfl (by simp [State.LeftByXportErr])
      · rw [execInit_allocFail hl hn (not_le.1 hm)] at h; cases h; exact .refused .allocFail nofun nofun (s.refused_reply _)
    · rw [execInit_invalidArg hl (not_le.1 hn)] at h; cases h; exact .refused .invalidArg nofun nofun (s.refused_reply _)
  · rw [execInit_busy hl] at h; cases h; exact .refused .busy nofun nofun (s.refused_reply _)

theorem execTick_answered {now : Tick} {s t : State} (h : exec (.tick now) s = .next t) : s.Answered (.tick now) t := by
  rcases execTick_next h with ⟨hl, rfl⟩ | ⟨hl, hr, rfl⟩ | ⟨s0, s1, -, -, rfl⟩
  · exact .refused .notReady nofun (fun _ => hl) (s.refused_reply _)
  · refine .xportErr rfl ⟨?_, (execTick_error_emits hl h).2⟩
    rw [State.reply_block, State.recover_block, if_neg (by simp [hr])]; rfl
  · exact .done none rfl

theorem execRegisterCb_answered {addr : VpAddr} {tag : Nat} {s t : State} (h : exec (.registerCb addr tag) s = .next t) :
    s.Answered (.registerCb addr tag) t := by
  by_cases hl : s.link = .operational
  · by_cases hc : s.cbN = s.params.cbCap
    · rw [execRegisterCb_capacity hl hc] at h; cases h; exact .refused .capacity nofun nofun (s.refused_reply _)
    · rw [execRegisterCb_ok hl hc] at h; cases h; exact .done none rfl
  · rw [execRegisterCb_notReady hl] at h; cases h; exact .refused .notReady nofun (fun _ => hl) (s.refused_reply _)

theorem exec_answer_of_xport {i : Instr} {s t : State} (hp : i.port = .xport) (h : exec i s = .next t) : t.answer = none := by
  obtain ⟨ht, -, -⟩ := exec_xportWrites hp h
  rw [ht]

/-- Every instruction answers in one of the four ways. -/
theorem exec_answered {i : Instr} {s t : State} (h : exec i s = .next t) : s.Answered i t := by
  cases i with
  | init n tx rx => exact execInit_answered h
  | tick now => exact execTick_answered h
  | writeVp | readVp => cases h; exact State.request_answered rfl _ _ _ _ (fun _ hl => hl) fun _ ht => ht
  | writeReq | readReq =>
    cases h; exact State.request_answered (s := s) (u := s.drawFree) rfl _ _ _ _ (fun _ hl => hl) fun _ ht => ht
  | registerCb addr tag => exact execRegisterCb_answered h
  | isIdle => cases h; exact .done (some s.idle) rfl
  | rbWrite | rxProgress | txDone | xportErr | writeAck | readReply => exact .silent (exec_answer_of_xport rfl h)

theorem State.Answered.notReadyFor {s t : State} {i : Instr} (h : s.Answered i t) (ha : t.answer = some ⟨.notReady, none⟩) :
    s.link.NotReadyFor i := by
  cases h with
  | silent hn => exact nomatch ha.symm.trans hn
  | done bit hok => exact nomatch ha.symm.trans hok
  | refused c _ hready hr => cases ha.symm.trans hr.answer; exact hready rfl
  | xportErr hx => exact nomatch ha.symm.trans hx

/-- Settles O47: of the four ways to answer, two answer an error. -/
theorem errorResultsArePrecise : Obligations.ErrorResultsArePrecise := by
  intro s t i code bit h ha hcode
  cases exec_answered h with
  | silent hn => exact nomatch ha.symm.trans hn
  | done bit' hok => cases ha.symm.trans hok; exact absurd rfl hcode
  | refused c hc _ hr => cases ha.symm.trans hr.answer; exact ⟨fun _ => ⟨hr.block, hr.outs⟩, fun he => absurd he hc⟩
  | xportErr hx hleft => cases ha.symm.trans hx; exact ⟨fun hne => absurd rfl hne, fun _ => hleft⟩

/-! ### What a link state ignores (R226) -/

theorem execRbWrite_uninit {s t : State} {idx : Nat} {b : Byte} (hl : s.link = .uninit) (h : exec (.rbWrite idx b) s = .next t) :
    t.block = s.block := by
  rw [exec_rbWrite, State.storeByte_ignored (s := s.takeOp) b (.inl hl)] at h; cases h; rfl

theorem execRxProgress_uninit {s t : State} {idx : Nat} (hl : s.link = .uninit) (h : exec (.rxProgress idx) s = .next t) :
    t.block = s.block := by
  rw [exec_rxProgress, State.publish_ignored (s := s.takeOp) (.inl hl)] at h; cases h; rfl

theorem execXportErr_ignored {s t : State} (hl : s.link ≠ .operational) (h : exec .xportErr s = .next t) : t.block = s.block := by
  rw [(xportErrChangesOnlyLink s).2 hl] at h; cases h; rfl

/-- Before `INIT` no transaction is open, and `TX_DONE` finds none to move. -/
theorem execTxDone_uninit {s t : State} (hl : s.link = .uninit) (hs : s.UninitInv) (h : exec .txDone s = .next t) :
    t.block = s.block := by
  obtain ⟨-, -, -, -, -, -, hidle, -⟩ := hs hl
  have hdone : s.txState.done = s.txState := by rw [hidle]; rfl
  cases h
  show State.block { s with txState := s.txState.done } = s.block
  rw [hdone]

/-- Settles O46: cell by cell; where nothing is refused, the answer `NOT_READY` would need another link state. -/
theorem linkStateGovernsOperations : Obligations.LinkStateGovernsOperations := by
  intro s t i h
  have hrefused (hl : s.link.NotReadyFor i) : t.answer = some ⟨.notReady, none⟩ ∧ t.block = s.block :=
    have hr := exec_refused_notReady hl h
    ⟨hr.answer, hr.block⟩
  have hready := (exec_answered h).notReadyFor
  refine ⟨fun hl => ?uninit, fun hl => ?initialised, fun hl => ?transportError, fun hl _ ha => ?operational, ?isIdle⟩
  case uninit =>
    have hl' : s.link ≠ .operational := by rw [hl]; exact nofun
    refine ⟨?_, ?_, ?_, ?_, ?_, ?_, ?_, ?_⟩
    · rintro now rfl; exact hrefused hl
    · rintro addr values now rfl; exact hrefused hl'
    · rintro addr count now rfl; exact hrefused hl'
    · rintro addr tag rfl; exact hrefused hl'
    · rintro idx b rfl; exact execRbWrite_uninit hl h
    · rintro idx rfl; exact execRxProgress_uninit hl h
    · rintro rfl; exact execXportErr_ignored hl' h
    · rintro rfl ⟨-, -, -, -, -, -, -, huninit⟩; exact execTxDone_uninit hl huninit h
  case initialised =>
    refine ⟨?_, ?_⟩
    · rintro n tx rx rfl
      rw [execInit_busy hl] at h; cases h; exact ⟨rfl, rfl⟩
    · rintro now rfl ha; exact hl (hready ha)
  case transportError =>
    have hl' : s.link ≠ .operational := by rw [hl]; exact nofun
    refine ⟨?_, ?_, ?_, ?_⟩
    · rintro addr values now rfl; exact hrefused hl'
    · rintro addr count now rfl; exact hrefused hl'
    · rintro addr tag rfl; exact hrefused hl'
    · rintro rfl; exact execXportErr_ignored hl' h
  case operational => exact Link.not_notReadyFor_of_operational i (hl ▸ hready ha)
  case isIdle => rintro rfl; cases h; exact ⟨s.idle, rfl, rfl⟩

end Sys2Proof.Machine
end

section
/-! SUPPORT. What the reset input does (R240), and a received frame of any class read out of the ring while a transaction runs beside it (R138,
R162, R262). Settles the statements about the reset input and about the ticks an acknowledged write takes. -/

namespace Sys2Proof.Machine

/-- Settles O2: the step is `State.applyRst`, which lists the values of R48 beside the offers and the parameters it keeps. -/
theorem resetInputTakesNoOperation : Obligations.ResetInputTakesNoOperation := by
  intro s hr
  have hstep : step s = .next s.applyRst := if_pos hr
  exact ⟨s.applyRst, hstep, rfl, rfl, rfl, rfl, rfl, rfl, rfl, rfl, rfl, rfl, rfl, rfl, rfl, rfl⟩

/-! ### A frame read by ticks, beside an open transaction -/

/-- From `u`, whose ring held the frame `5A A5 len fc data`, `k` ticks have read the first `k` bytes of it, the second of them at tick `start`,
and made one latency transition each; the configuration and the send tick have not changed. -/
structure State.ReadingFrame (u : State) (len fc : Byte) (data : List Byte) (start : Tick) (k : Nat) (s : State) : Prop where
  ring : s.RingHolds ((frameBytes len fc data).drop k)
  read : s.HasRead len fc data start k
  latent : s.txState = TxState.latency^[k] u.txState
  kept : s = { u with
    rbTail := s.rbTail, rxState := s.rxState, rxHdr1 := s.rxHdr1, rxFb := s.rxFb, rxExpected := s.rxExpected
    rxReceived := s.rxReceived, rxStartTick := s.rxStartTick, txState := s.txState, answer := s.answer, outs := s.outs }

section
variable {u s : State} {len fc : Byte} {data : List Byte} {start now : Tick} {k : Nat}

/-- The next byte of the frame stands at the next index of the ring. -/
theorem State.ReadingFrame.ringHolds_cons (h : u.ReadingFrame len fc data start k s) (hk : k < (frameBytes len fc data).length) :
    s.RingHolds ((frameBytes len fc data)[k] :: (frameBytes len fc data).drop (k + 1)) := by
  rw [← List.drop_eq_getElem_cons hk]; exact h.ring

/-- What the ticks leave of `u` and the next ones judge. -/
theorem State.ReadingFrame.config (h : u.ReadingFrame len fc data start k s) :
    s.link = u.link ∧ s.params = u.params ∧ s.cfgTxTimeout = u.cfgTxTimeout ∧ s.cfgRxTimeout = u.cfgRxTimeout ∧
      s.txSendTick = u.txSendTick := by
  rw [h.kept]; exact ⟨rfl, rfl, rfl, rfl, rfl⟩

/-- A tick before the last one reads one byte more and makes one latency transition more. -/
theorem State.ReadingFrame.tick (h : u.ReadingFrame len fc data start k s) (hl : u.link = .operational)
    (hdata : data.length = dataCount len) (hk : k + 1 < data.length + 4) (hstart : k = 1 → now = start)
    (hdeadline : ¬ u.cfgTxTimeout ≤ now - u.txSendTick) (hlimit : 2 ≤ k → ¬ u.cfgRxTimeout < now - start) :
    ∃ t, exec (.tick now) s = .next t ∧ u.ReadingFrame len fc data start (k + 1) t := by
  have hlt : k < (frameBytes len fc data).length := Nat.lt_of_succ_lt hk
  have hcons := h.ringHolds_cons hlt
  obtain ⟨hbyte, hrest⟩ := hcons.pop
  obtain ⟨hlink, -, hcfgTx, hcfgRx, hsend⟩ := h.config
  have hread := h.read.rxFeed (now := now) hdata (List.getElem?_eq_getElem hlt) hstart
  have hf := s.rxFeed_frame (frameBytes len fc data)[k] now
  have htick := execTick_reads_incomplete (hlink.trans hl) (h.read.wantsByte hdata (Nat.lt_of_succ_lt hk)) hcons.nonempty hbyte
    (hread.incomplete hk) (by rw [hcfgTx, hsend]; exact hdeadline)
    (hread.not_expired (fun h2 => hstart (by omega)) fun h3 => by rw [hcfgRx]; exact hlimit (by omega))
  generalize s.rxFeed (frameBytes len fc data)[k] now = f at hread hf htick
  refine ⟨_, htick, ?_, hread.outside _ _ _ _, ?_, ?_⟩
  · rw [hf]; exact ⟨hrest.fits, hrest.head, hrest.byte⟩
  · rw [Function.iterate_succ_apply', ← h.latent]
  · rw [hf, h.kept]

/-- Ticks after the header, short of the last one. -/
theorem State.ReadingFrame.ticks {nows : List Tick} (h : u.ReadingFrame len fc data start k s) (hl : u.link = .operational)
    (hdata : data.length = dataCount len) (h2 : 2 ≤ k) (hk : k + nows.length < data.length + 4)
    (hdeadline : ∀ now ∈ nows, ¬ u.cfgTxTimeout ≤ now - u.txSendTick) (hlimit : ∀ now ∈ nows, ¬ u.cfgRxTimeout < now - start) :
    ∃ t, s.ticks nows = .next t ∧ u.ReadingFrame len fc data start (k + nows.length) t := by
  induction nows generalizing s k with
  | nil => exact ⟨s, rfl, h⟩
  | cons now nows ih =>
    rw [List.forall_mem_cons] at hdeadline hlimit
    rw [List.length_cons, ← add_assoc, add_right_comm] at hk ⊢
    obtain ⟨s', hs', h'⟩ := h.tick hl hdata (by omega) (fun h1 => by omega) hdeadline.1 fun _ => hlimit.1
    obtain ⟨t, ht, hread⟩ := ih h' (by omega) hk hdeadline.2 hlimit.2
    exact ⟨t, by rw [State.ticks, hs']; exact ht, hread⟩

/-- The last tick announces the frame, which the RX buffer still holds, and routes it; it empties the ring. -/
theorem State.ReadingFrame.lastTick (now : Tick) (h : u.ReadingFrame len fc data start (data.length + 3) s) (hl : u.link = .operational)
    (hdata : data.length = dataCount len) (h1 : 1 ≤ data.length) (hdeadline : ¬ u.cfgTxTimeout ≤ now - u.txSendTick) :
    ∃ w : State, exec (.tick now) s = .next w ∧ w.link = .operational ∧ w.params = u.params ∧ w.rxState = .waitingHeader ∧
      w.rbTail = w.rbHead ∧ w.HoldsData len fc data start data.length ∧ w.outs = .frameDone fc (len - 1#8) :: w.fired ∧
      w.txState = State.routedTx { w with txState := TxState.latency^[data.length + 4] u.txState } := by
  have hlt : data.length + 3 < (frameBytes len fc data).length := Nat.lt_succ_self _
  have hcons := h.ringHolds_cons hlt
  obtain ⟨hbyte, hrest⟩ := hcons.pop
  rw [List.drop_eq_nil_of_le (le_refl (data.length + 4))] at hrest
  obtain ⟨hlink, hparams, hcfgTx, -, hsend⟩ := h.config
  obtain ⟨hheld, hstate⟩ := h.read.rxFeed (now := now) hdata (List.getElem?_eq_getElem hlt) fun h2 => by omega
  rw [if_pos ⟨by omega, rfl⟩] at hstate
  obtain ⟨tx, hw⟩ := execTick_completes (now := now) (hlink.trans hl) (h.read.wantsByte hdata (Nat.lt_succ_self _))
    hcons.nonempty hbyte hstate
  have hf := s.rxFeed_frame (frameBytes len fc data)[data.length + 3] now
  generalize s.rxFeed (frameBytes len fc data)[data.length + 3] now = f at hheld hf hw
  have hkept : f.link = s.link ∧ f.params = s.params ∧ f.rbHead = s.rbHead := by rw [hf]; exact ⟨rfl, rfl, rfl⟩
  obtain ⟨hflink, hfparams, hfhead⟩ := hkept
  have htx := execTick_txState (hlink.trans hl) hw
  rw [hcfgTx, hsend, if_neg hdeadline, if_neg hdeadline, h.latent, ← Function.iterate_succ_apply' TxState.latency] at htx
  refine ⟨_, hw, (hflink.trans hlink).trans hl, hfparams.trans hparams, rfl, hrest.empty.trans hfhead.symm, ?_, ?_, ?_⟩
  · exact ⟨hheld.expected, hheld.received, rfl, hheld.startTick, hheld.length, hheld.functionCode, hheld.slots⟩
  · rw [hheld.functionCode, hheld.expected]; rfl
  · exact htx.elim (fun hquiet => nomatch hquiet.1) fun ⟨_, _, hrouted⟩ => hrouted

end

/-! ### The acknowledged write (R262) -/

/-- A frame held that carries `4F 4B` under the function code of an acknowledgement is one (R82). -/
theorem State.HoldsData.holdsAck {s : State} {start : Tick} (h : s.HoldsData 0x03#8 0x82#8 [0x4F#8, 0x4B#8] start 2)
    (hcap : 6 ≤ s.params.rxCap) : s.holdsAck = true :=
  State.holdsAck_iff.2 ⟨h.functionCode, h.expected, (Option.some.inj (h.slots 0 (by decide) (by omega))).symm,
    (Option.some.inj (h.slots 1 (by decide) (by omega))).symm⟩

/-- Six ticks read the acknowledgement that stands in the ring, and a write whose frame has just been sent receives it. -/
theorem State.ReadingFrame.acknowledged {u : State} {t1 t2 t3 t4 t5 t6 : Tick}
    (h : u.ReadingFrame 0x03#8 0x82#8 [0x4F#8, 0x4B#8] t2 0 u) (hl : u.link = .operational) (htx : u.txState = .writeSendComplete)
    (hcap : 6 ≤ u.params.rxCap) (hdeadline : ∀ now ∈ [t1, t2, t3, t4, t5, t6], ¬ u.cfgTxTimeout ≤ now - u.txSendTick)
    (hlimit : ∀ now ∈ [t3, t4, t5, t6], ¬ u.cfgRxTimeout < now - t2) :
    ∃ w, u.ticks [t1, t2, t3, t4, t5, t6] = .next w ∧ w.link = .operational ∧ w.rxState = .waitingHeader ∧ w.rbTail = w.rbHead ∧
      w.txState = .writeAckReceived ∧ w.outs = [.frameDone 0x82#8 0x02#8] := by
  obtain ⟨a, ha, hreadA⟩ := h.tick (now := t1) hl rfl (by decide) nofun (hdeadline t1 (by simp)) nofun
  obtain ⟨b, hb, hreadB⟩ := hreadA.tick (now := t2) hl rfl (by decide) (fun _ => rfl) (hdeadline t2 (by simp)) fun h2 => absurd h2 (by decide)
  obtain ⟨c, hc, hreadC⟩ := hreadB.ticks (nows := [t3, t4, t5]) hl rfl (by decide) (Nat.lt_succ_self 5)
    (fun now hm => hdeadline now (List.mem_cons_of_mem t1 (List.mem_cons_of_mem t2 (List.mem_append_left [t6] hm))))
    fun now hm => hlimit now (List.mem_append_left [t6] hm)
  obtain ⟨w, hw, hlink, hparams, hrx, hempty, hheld, houts, hrouted⟩ := hreadC.lastTick t6 hl rfl (by decide) (hdeadline t6 (by simp))
  have hrun : u.ticks [t1, t2, t3, t4, t5] = .next c := by rw [State.ticks, ha]; dsimp only; rw [State.ticks, hb]; exact hc
  have hnot : w.rxByte 3 ≠ 0x83#8 := by rw [hheld.functionCode]; decide
  refine ⟨w, (State.ticks_concat t6 hrun).trans hw, hlink, hrx, hempty, ?_, ?_⟩
  · rw [hrouted, htx]
    exact (State.routedTx_of_not_reply (s := { w with txState := .awaitingWriteAck }) hnot).trans
      (if_pos ⟨hheld.holdsAck (hparams ▸ hcap), rfl⟩)
  · rw [houts, State.fired_of_not_reply hnot]; rfl

/-- A tick with nothing to read folds a received acknowledgement to `Idle` (R162). -/
theorem execTick_folds_writeAckReceived {s : State} (now : Tick) (hl : s.link = .operational) (hr : s.rxState = .waitingHeader)
    (he : s.rbTail = s.rbHead) (htx : s.txState = .writeAckReceived) :
    ∃ t, exec (.tick now) s = .next t ∧ t.txState = .idle ∧ t.outs = [] ∧ t.rbTail = t.rbHead := by
  obtain ⟨tx, ht⟩ := execTick_empty (now := now) hl (State.wantsByte_of_state hr (by decide)) he
  rw [State.rxTimeoutCheck_header now hr] at ht
  refine ⟨_, ht, ?_, rfl, he⟩
  rcases execTick_txState hl ht with ⟨-, hlatent⟩ | ⟨_, houts, -⟩
  · rw [hlatent, htx]; exact ite_self _
  · exact nomatch houts

/-- Settles O37: `TX_DONE` leaves the write waiting in `WriteSendComplete`, the acknowledgement is received in the empty ring, six ticks read it,
and the seventh folds. -/
theorem acknowledgedWriteClosesInSevenTicks : Obligations.AcknowledgedWriteClosesInSevenTicks := by
  intro s t1 t2 t3 t4 t5 t6 t7 ⟨⟨_, hcap, _, _⟩, _⟩ hl htx hr he hN hdeadline hlimit
  have hdone : exec .txDone s = .next { s.takeOp with txState := .writeSendComplete } := by
    rw [txDoneMovesOnlySendingStates s, if_pos htx]; rfl
  generalize hu : ({ s.takeOp with txState := .writeSendComplete } : State) = u at hdone
  have hsent : u.link = .operational ∧ u.rbTail = u.rbHead ∧ ackFrame.length < u.cfgN := by rw [← hu]; exact ⟨hl, he, hN⟩
  obtain ⟨hul, hue, huN⟩ := hsent
  have hring := State.receive_ringHolds (s := u.takeOp) (bs := ackFrame) (by rw [State.takeOp_link, hul]; decide) hue nofun huN
  have hframe : u.takeOp.receive ackFrame = _ := u.takeOp.receiveFrom_frame u.rbHead ackFrame
  have hack := exec_writeAck u
  generalize u.takeOp.receive ackFrame = v at hring hframe hack
  have hcfg : v.link = s.link ∧ v.txState = .writeSendComplete ∧ v.rxState = s.rxState ∧ v.params = s.params ∧
      v.cfgTxTimeout = s.cfgTxTimeout ∧ v.cfgRxTimeout = s.cfgRxTimeout ∧ v.txSendTick = s.txSendTick := by
    rw [hframe, ← hu]; exact ⟨rfl, rfl, rfl, rfl, rfl, rfl, rfl⟩
  obtain ⟨hvl, hvtx, hvr, hparams, hcfgTx, hcfgRx, hsend⟩ := hcfg
  have hbegin : v.ReadingFrame 0x03#8 0x82#8 [0x4F#8, 0x4B#8] t2 0 v := ⟨hring, hvr.trans hr, rfl, rfl⟩
  obtain ⟨w, hw, hlink, hrx, hempty, hreceived, houts⟩ := hbegin.acknowledged (hvl.trans hl) hvtx (by rw [hparams]; omega)
    (by rw [hcfgTx, hsend]; exact hdeadline) (by rw [hcfgRx]; exact hlimit)
  obtain ⟨x, hx, hidle, hquiet, hxempty⟩ := execTick_folds_writeAckReceived t7 hlink hrx hempty hreceived
  exact ⟨u, v, w, x, hdone, hack, hw, hreceived, houts, (State.ticks_concat (nows := []) t7 rfl).trans hx, hidle, hquiet, hxempty⟩

end Sys2Proof.Machine
end
